-- ==== Sys2Proof/Word.lean ====
section
/-! DEFINITION. The word types of NECTX (00_scope R8, R9). Every value is unsigned; bit 0 is the least significant bit. -/

namespace Sys2Proof

/-- An 8-bit value: an address byte, a command byte, an opcode (R9). -/
abbrev Byte := BitVec 8

/-- A 16-bit value: a logical address (R9). -/
abbrev Half := BitVec 16

/-- A 32-bit value: a raw code, a frame word, a host register, a duration register (R9, R21). -/
abbrev Word := BitVec 32

/-- A 40-bit command word, opcode in bits 39:32 and operand in bits 31:0 (R90). -/
abbrev CmdWord := BitVec 40

end Sys2Proof
end

