-- ==== Sys2Proof/Syntax.lean ====
section
/-! DEFINITION. The eight commands of NECTX, one constructor per row of the opcode table (30_encoding R93), operands in
the order of R98. -/

namespace Sys2Proof

/-- A command the host issues. Every operand has the width of its field (R9, R94), so every value of this type is a
legal command. -/
inductive Instr where
  /-- `DECODE_RAW code` (R135). -/
  | decodeRaw (code : Word)
  /-- `ENCODE_RAW address, command` (R136). -/
  | encodeRaw (address : Half) (command : Byte)
  /-- `SEND_BYTES low, high, cmd, inv_cmd` (R156). -/
  | sendBytes (low high cmd invCmd : Byte)
  /-- `SEND_REPEAT_FRAME` (R158). -/
  | sendRepeatFrame
  /-- `SEND address, command, auto_repeat` (R180). -/
  | send (address : Half) (command : Byte) (autoRepeat : Bool)
  /-- `SEND_RAW code` (R185). -/
  | sendRaw (code : Word)
  /-- `STOP_REPEAT` (R208). -/
  | stopRepeat
  /-- `CONFIGURE duty` (R230). -/
  | configure (duty : Byte)
  deriving DecidableEq, Repr

end Sys2Proof
end

