-- ==== Sys2Proof/WellFormed.lean ====
section
/-! DEFINITION. Which command words are legal: the match and mask rows of the opcode table (30_encoding R92, R93). The
decoder is written from the operand formats (R91, R95) and not from this table; that the two agree is an obligation.
An `Instr` needs no check of its own: its operand types are its fields' widths. -/

namespace Sys2Proof

/-- One row of the opcode table: the word `w` selects it when `w` masked equals the match value (R93). -/
structure OpcodeRow where
  mnemonic : String
  opcode : Byte
  matchBits : CmdWord
  maskBits : CmdWord
  deriving DecidableEq, Repr

/-- The opcode table, row by row as R93 prints it. -/
def opcodeTable : List OpcodeRow :=
  [ ⟨"DECODE_RAW", 0x01, 0x0100000000, 0xFF00000000⟩,
    ⟨"ENCODE_RAW", 0x02, 0x0200000000, 0xFFFF000000⟩,
    ⟨"SEND_BYTES", 0x03, 0x0300000000, 0xFF00000000⟩,
    ⟨"SEND_REPEAT_FRAME", 0x04, 0x0400000000, 0xFFFFFFFFFF⟩,
    ⟨"SEND", 0x05, 0x0500000000, 0xFFFE000000⟩,
    ⟨"SEND_RAW", 0x06, 0x0600000000, 0xFF00000000⟩,
    ⟨"STOP_REPEAT", 0x07, 0x0700000000, 0xFFFFFFFFFF⟩,
    ⟨"CONFIGURE", 0x08, 0x0800000000, 0xFFFFFFFF00⟩ ]

/-- The word `w` selects the row `r` (R92, R93). -/
def OpcodeRow.selects (r : OpcodeRow) (w : CmdWord) : Bool :=
  (w &&& r.maskBits) == r.matchBits

/-- A command word is well formed when some row of the table selects it (R92); otherwise it is illegal (R95). -/
def wordWellFormed (w : CmdWord) : Bool :=
  opcodeTable.any fun r => r.selects w

/-- The mnemonic of a command's row (R93). -/
def Instr.mnemonic : Instr → String
  | .decodeRaw _ => "DECODE_RAW"
  | .encodeRaw _ _ => "ENCODE_RAW"
  | .sendBytes _ _ _ _ => "SEND_BYTES"
  | .sendRepeatFrame => "SEND_REPEAT_FRAME"
  | .send _ _ _ => "SEND"
  | .sendRaw _ => "SEND_RAW"
  | .stopRepeat => "STOP_REPEAT"
  | .configure _ => "CONFIGURE"

end Sys2Proof
end

