-- ==== Sys2Proof/Decode.lean ====
section
/-! DEFINITION. The decoder and the encoder of command words (30_encoding R90 to R95). -/

namespace Sys2Proof

/-! ## Fields of a command word (R90, R91) -/

/-- `cmd[39:32]`, the opcode. -/
def opField (w : CmdWord) : Byte := w.extractLsb' 32 8

/-- `cmd[31:0]`, the operand. -/
def argField (w : CmdWord) : Word := w.extractLsb' 0 32

/-- The command word `{op, arg}` (R90). -/
def cmdWord (op : Byte) (arg : Word) : CmdWord := op ++ arg

/-- `arg[7:0]`: `low`, `duty`. -/
def byte0 (v : Word) : Byte := v.extractLsb' 0 8

/-- `arg[15:8]`: `high`. -/
def byte1 (v : Word) : Byte := v.extractLsb' 8 8

/-- `arg[23:16]`: `cmd`, `command`. -/
def byte2 (v : Word) : Byte := v.extractLsb' 16 8

/-- `arg[31:24]`: `inv_cmd`, `inverted`. -/
def byte3 (v : Word) : Byte := v.extractLsb' 24 8

/-- `arg[15:0]`: `address`. -/
def addressField (v : Word) : Half := v.extractLsb' 0 16

/-- `arg[24]`: `auto_repeat`. -/
def autoRepeatField (v : Word) : Bool := v.getLsbD 24

/-! ## The opcode map (R93) -/

def opDecodeRaw : Byte := 0x01
def opEncodeRaw : Byte := 0x02
def opSendBytes : Byte := 0x03
def opSendRepeatFrame : Byte := 0x04
def opSend : Byte := 0x05
def opSendRaw : Byte := 0x06
def opStopRepeat : Byte := 0x07
def opConfigure : Byte := 0x08

/-! ## The operand formats (R91) -/

/-- Format `B`: `{inv_cmd, cmd, high, low}`, the byte sent first in bits 7:0. -/
def packB (low high cmd invCmd : Byte) : Word := invCmd ++ cmd ++ high ++ low

/-- Format `AC`: bits 31:24 reserved 0, `command`, `address`. -/
def packAC (address : Half) (command : Byte) : Word := (0 : Byte) ++ command ++ address

/-- Format `ACR`: bits 31:25 reserved 0, bit 24 `auto_repeat`, `command`, `address`. -/
def packACR (address : Half) (command : Byte) (autoRepeat : Bool) : Word :=
  (0 : BitVec 7) ++ BitVec.ofBool autoRepeat ++ command ++ address

/-- Format `D`: bits 31:8 reserved 0, `duty`. -/
def packD (duty : Byte) : Word := (0 : BitVec 24) ++ duty

/-- Format `Z`: every bit reserved 0. -/
def packZ : Word := 0

/-! ## Decoding (R92, R95) -/

/-- Why a command word is illegal (R95): the opcode is unassigned (a), or a reserved operand bit is 1 (b). -/
inductive DecodeError where
  | unassignedOpcode (op : Byte)
  | reservedOperandBits (op : Byte)
  deriving DecidableEq, Repr

/-- The decoder: every 40-bit word is one command or is illegal by name (R92, R95). -/
def decode (w : CmdWord) : Except DecodeError Instr :=
  let op := opField w
  let arg := argField w
  if op = opDecodeRaw then .ok (.decodeRaw arg)
  else if op = opEncodeRaw then
    if byte3 arg = 0 then .ok (.encodeRaw (addressField arg) (byte2 arg)) else .error (.reservedOperandBits op)
  else if op = opSendBytes then .ok (.sendBytes (byte0 arg) (byte1 arg) (byte2 arg) (byte3 arg))
  else if op = opSendRepeatFrame then
    if arg = 0 then .ok .sendRepeatFrame else .error (.reservedOperandBits op)
  else if op = opSend then
    if arg.extractLsb' 25 7 = 0 then .ok (.send (addressField arg) (byte2 arg) (autoRepeatField arg))
    else .error (.reservedOperandBits op)
  else if op = opSendRaw then .ok (.sendRaw arg)
  else if op = opStopRepeat then
    if arg = 0 then .ok .stopRepeat else .error (.reservedOperandBits op)
  else if op = opConfigure then
    if arg.extractLsb' 8 24 = 0 then .ok (.configure (byte0 arg)) else .error (.reservedOperandBits op)
  else .error (.unassignedOpcode op)

/-! ## Encoding (R91, R93) -/

/-- The opcode of a command (R93). -/
def Instr.opcode : Instr → Byte
  | .decodeRaw _ => opDecodeRaw
  | .encodeRaw _ _ => opEncodeRaw
  | .sendBytes _ _ _ _ => opSendBytes
  | .sendRepeatFrame => opSendRepeatFrame
  | .send _ _ _ => opSend
  | .sendRaw _ => opSendRaw
  | .stopRepeat => opStopRepeat
  | .configure _ => opConfigure

/-- The operand word of a command in its format (R91). -/
def Instr.operand : Instr → Word
  | .decodeRaw code => code
  | .encodeRaw address command => packAC address command
  | .sendBytes low high cmd invCmd => packB low high cmd invCmd
  | .sendRepeatFrame => packZ
  | .send address command autoRepeat => packACR address command autoRepeat
  | .sendRaw code => code
  | .stopRepeat => packZ
  | .configure duty => packD duty

/-- The command word of a command (R90, R93). -/
def encode (i : Instr) : CmdWord := cmdWord i.opcode i.operand

/-! ## The host's numbering of a table word -/

/-- The 40-bit word of a table row whose low `nbits` bits are those of `w`, every other bit 0. The table's row is one
number with bit 0 its least significant bit (R93), so opcode and operand stand where R90 puts them (log 16). -/
def tableWord (nbits w : Nat) : CmdWord := BitVec.ofNat 40 (w % 2 ^ nbits)

/-- What the decoder reads from a table row's word; none where the word is illegal. -/
def decodeTableWord (nbits w : Nat) : Option Instr :=
  match decode (tableWord nbits w) with
  | .ok i => some i
  | .error _ => none

end Sys2Proof
end

