-- ==== Sys2Proof/Machine/Operands.lean ====
section
/-! DEFINITION. The arithmetic of the rules (00_scope R10) and the operands derived by the codec (40_codec R131 to R137,
30_encoding R94). -/

namespace Sys2Proof.Machine

/-- `not8(b)`, the bitwise complement of a byte (R10). -/
def not8 (b : Byte) : Byte := ~~~b

/-- `zext_16(b)` (R10). -/
def zext16 (b : Byte) : Half := b.setWidth 16

/-- `sat_sub(a, b)`: `a - b` if `a >= b`, else 0 (R10). The subtraction of `Nat` is this one. -/
def satSub (a b : Nat) : Nat := a - b

/-- `popcount(w)`: the number of 1 bits of a 32-bit word (R10). -/
def popcount (w : Word) : Nat := (List.range 32).countP fun i => w.getLsbD i

/-- A duration or a wait as a 32-bit register holds it (R25, R29, R30, R37, R38). Exact below `2 ^ 32`, which R6(e) gives
for every duration; above, it keeps the low 32 bits (log 7). -/
def toWord (n : Nat) : Word := BitVec.ofNat 32 n

/-- A raw code from its bytes, `{inv, command, high, low}` (R66). -/
def rawCode (low high command inv : Byte) : Word := packB low high command inv

/-- Address Decomposition `decomp(address) = (low, high)` (R131). -/
def decomp (address : Half) : Byte × Byte :=
  let low : Byte := address.extractLsb' 0 8
  let hi : Byte := address.extractLsb' 8 8
  (low, if hi = 0 then not8 low else hi)

/-- Address Resolution `resolve(low, high)` (R132). -/
def resolve (low high : Byte) : Half :=
  if high = not8 low then zext16 low else high ++ low

/-- What `decode_raw` gives (R134). -/
structure Decoded where
  valid : Bool
  address : Half
  command : Byte
  deriving DecidableEq, Repr

/-- `decode_raw(code)` (R134): address and command are computed whatever `valid` is. -/
def decodeRaw (code : Word) : Decoded where
  valid := byte2 code == not8 (byte3 code)
  address := resolve (byte0 code) (byte1 code)
  command := byte2 code

/-- `encode_raw(address, command)` (R137). -/
def encodeRaw (address : Half) (command : Byte) : Word :=
  rawCode (decomp address).1 (decomp address).2 command (not8 command)

/-- The frame word of a `SEND` with operand `arg` (R181, R212). -/
def sendFrame (arg : Word) : Word := encodeRaw (addressField arg) (byte2 arg)

/-- The frame word of a valid `SEND_RAW` with operand `arg` (R186, R212). -/
def sendRawFrame (arg : Word) : Word := encodeRaw (resolve (byte0 arg) (byte1 arg)) (byte2 arg)

/-- The duty a `CONFIGURE` stores: the operand in `1 .. 100`, else 33 (R230). -/
def legalDuty (duty : Byte) : BitVec 7 :=
  if 1 ≤ duty.toNat ∧ duty.toNat ≤ 100 then duty.setWidth 7 else 33

end Sys2Proof.Machine
end

