-- ==== Sys2Proof/Config.lean ====
section
/-! DEFINITION. The parameters of the block (00_scope R5, R7), the constraints on them (R6), and the one free value,
the cancellation latency (10_state R38). -/

namespace Sys2Proof

/-- The parameters a model of NECTX takes as arguments (R5, R7; 92_eei_decisions section 1). Durations are natural
numbers of ticks. They are constant for a run (R45) and carried in `Machine.State` so that every claim holds for
every parameter set (log 1). `unit`, `modFreq` and `tTick` are read by no rule (R5). -/
structure Params where
  /-- `UNIT` in ticks. -/
  unit : Nat
  /-- `LEAD_MARK`. -/
  leadMark : Nat
  /-- `LEAD_SPACE`. -/
  leadSpace : Nat
  /-- `BIT_MARK`. -/
  bitMark : Nat
  /-- `BIT_0_SPACE`. -/
  bit0Space : Nat
  /-- `BIT_1_SPACE`. -/
  bit1Space : Nat
  /-- `TRAIL_MARK`. -/
  trailMark : Nat
  /-- `REPEAT_SPACE`. -/
  repeatSpace : Nat
  /-- `REPEAT_PERIOD`. -/
  repeatPeriod : Nat
  /-- `MOD_FREQ`, a whole number of hertz: DESIGN CHOICE, the spec gives it no type or unit (log 23). -/
  modFreq : Nat
  /-- `T_TICK`, a whole number of nanoseconds: DESIGN CHOICE, the spec asks only that it be above 0 (log 23). -/
  tTick : Nat
  /-- `TOP`, the carrier generator's maximum counter value. -/
  top : Nat
  /-- `W_TOP`, the width of the value written to the carrier setter. -/
  wTop : Nat
  /-- `CANCEL_LATENCY_MAX`. -/
  cancelLatencyMax : Nat
  deriving DecidableEq, Repr

/-- The default column of R5 and R7 with ticks of 1 ns. PRESUMED by the spec itself ("from general knowledge, not in
source"). `TOP` has no default there: 1000 is a DESIGN CHOICE (log 2), unsafe for a claim that rests on it. -/
def Params.defaults : Params where
  unit := 562500
  leadMark := 9000000
  leadSpace := 4500000
  bitMark := 562500
  bit0Space := 562500
  bit1Space := 1687500
  trailMark := 562500
  repeatSpace := 2250000
  repeatPeriod := 110000000
  modFreq := 38000
  tTick := 1
  top := 1000
  wTop := 32
  cancelLatencyMax := 0

/-- `DUR_MAX`, the longest full frame (R6(d)). -/
def Params.durMax (p : Params) : Nat :=
  p.leadMark + p.leadSpace + 32 * p.bitMark + p.trailMark + 32 * max p.bit0Space p.bit1Space

/-- The duration of a repeat frame (R103). -/
def Params.repeatDuration (p : Params) : Nat :=
  p.leadMark + p.repeatSpace + p.trailMark

/-- R6(a): each of the seven interval durations is at least one tick. -/
abbrev Params.Positive (p : Params) : Prop :=
  1 ≤ p.leadMark ∧ 1 ≤ p.leadSpace ∧ 1 ≤ p.bitMark ∧ 1 ≤ p.bit0Space ∧ 1 ≤ p.bit1Space ∧ 1 ≤ p.trailMark ∧
    1 ≤ p.repeatSpace

/-- R6(e): every duration fits a 32-bit duration register. -/
abbrev Params.Fits (p : Params) : Prop :=
  p.repeatPeriod < 2 ^ 32 ∧ p.durMax < 2 ^ 32 ∧ p.repeatDuration < 2 ^ 32 ∧ p.cancelLatencyMax < 2 ^ 32

/-- The constraints of R6(a) to (e) and of R7 (92_eei_decisions section 1) a parameter set must meet. `T_TICK > 0` is
`1 ≤ tTick` in the model's unit (log 23). The bound on the
repeat frame is in `Fits`: R6(e) bounds every duration, of which the repeat frame's is one. -/
abbrev Params.Valid (p : Params) : Prop :=
  p.Positive ∧ p.bit0Space ≠ p.bit1Space ∧ p.repeatSpace ≠ p.leadSpace ∧ p.durMax ≤ p.repeatPeriod ∧ p.Fits ∧
    1 ≤ p.tTick ∧ 1 ≤ p.wTop ∧ 1 ≤ p.top ∧ p.top < 2 ^ p.wTop

/-- The free choice behind the latency of a cancellation requested while BG waits: what the environment draws at draw
number `n` (R38, R205, 92_eei_decisions D12, 93_implementation_defined I1). It has no body: nothing can be proved of its
values (log 3). -/
opaque Config.latencyDraw : Nat → Nat

/-- The draw `delta` number `n`, in `0 .. CANCEL_LATENCY_MAX` (R38). With the bound 0 it is 0. -/
def Config.delta (p : Params) (n : Nat) : Nat :=
  if p.cancelLatencyMax = 0 then 0 else Config.latencyDraw n % (p.cancelLatencyMax + 1)

end Sys2Proof
end

