-- ==== Sys2Proof/Machine/State.lean ====
section
/-! DEFINITION. The state of NECTX (10_state R21), the record of a run (R12, R13), the schedule of the host's accesses,
and the state after reset (R46, R280). -/

namespace Sys2Proof.Machine

/-- The values of `seq_phase` (R28). The codes 9 to 15 are never taken and have no constructor (U9, log 19). -/
inductive Phase where
  | idle
  | leadMark
  | leadSpace
  | bitMark
  | bitSpace
  | trailMark
  | rptLeadMark
  | rptSpace
  | rptTrailMark
  deriving DecidableEq, Repr

/-- `seq_owner`: which agent started the frame in progress (R31). -/
inductive Owner where
  | fg
  | bg
  deriving DecidableEq, Repr

/-- `rpt_state` (R36). Code 3 never occurs and has no constructor (U9, log 19). -/
inductive RptState where
  | idle
  | repeating
  | stopping
  deriving DecidableEq, Repr

/-- `fg_stage` (R39). Code 3 never occurs and has no constructor (U9, log 19). -/
inductive FgStage where
  | idle
  | join
  | emit
  deriving DecidableEq, Repr

/-- What can reach the block from outside at one instant: one host register access (R62, R63) or the reset input
(R280). -/
inductive InputEvent where
  /-- `MemRead(idx, 4)`. -/
  | read (idx : Nat)
  /-- `MemWrite(idx, 4, v)`. -/
  | write (idx : Nat) (v : Word)
  /-- The reset input, asserted and released. -/
  | reset
  deriving DecidableEq, Repr

/-- An input and how many instants pass before it is made, counted from the instant after the input before it. So at
most one input falls on one instant (R12). -/
structure Input where
  delay : Nat
  event : InputEvent
  deriving DecidableEq, Repr

/-- What a host read returned: the instant, the index, the value (R62). A record of the model, like TRACE (log 14). -/
structure ReadRecord where
  time : Nat
  idx : Nat
  value : Word
  deriving DecidableEq, Repr

/-- The state of the block and of the run of it. The fields up to `carrierValue` are R21's elements; the others are the
model's own (R45 says they are no state of the block). -/
structure State where
  /-- `CMD_ARG` (R22). -/
  cmdArgReg : Word
  /-- `cmd_op` (R23). -/
  cmdOp : Byte
  /-- `cmd_arg` (R23). -/
  cmdArg : Word
  /-- `FRAME` (R24). -/
  frame : Word
  /-- `R_DURATION` (R25). -/
  rDuration : Word
  /-- `R_CODE` (R26). -/
  rCode : Word
  /-- `R_DECODE` (R26). -/
  rDecode : BitVec 25
  /-- `seq_phase` (R27, R28). -/
  seqPhase : Phase
  /-- `bit_idx` (R27). -/
  bitIdx : BitVec 5
  /-- `ivl_cnt` (R29). -/
  ivlCnt : Word
  /-- `dur_acc` (R30). -/
  durAcc : Word
  /-- `seq_owner` (R31). -/
  seqOwner : Owner
  /-- `BUSY` (R32). -/
  busy : Bool
  /-- `ILL` (R32). -/
  ill : Bool
  /-- `OVR` (R32). -/
  ovr : Bool
  /-- `auto_rpt` (R32). -/
  autoRpt : Bool
  /-- `DUTY` (R34). -/
  duty : BitVec 7
  /-- `rpt_state` (R36). -/
  rptState : RptState
  /-- `rpt_wait` (R37). -/
  rptWait : Word
  /-- `cancel_lat` (R38). -/
  cancelLat : Word
  /-- `fg_stage` (R39). -/
  fgStage : FgStage
  /-- `carrier_value` (R40), a number below `2 ^ W_TOP` (log 8). -/
  carrierValue : Nat
  /-- The time in ticks since reset (R12). -/
  now : Nat
  /-- `TRACE`, the writes to the carrier setter in the order made (R13). -/
  trace : List (Nat × Nat)
  /-- The parameters, constant for a run (R5, R7, R45; log 1). -/
  params : Params
  /-- The inputs still to come (R45; log 4). -/
  inputs : List Input
  /-- How many cancellation latencies have been drawn (R38; log 3). -/
  draws : Nat
  /-- What host reads have returned, in order (R62; log 14). -/
  readLog : List ReadRecord
  deriving DecidableEq, Repr

/-- Why a step has no next state. -/
inductive Fault where
  /-- Raised by the settle of an instant whose zero-time transitions never end (R216). It needs a duration parameter
  of 0, against R6(a), which the spec says to refuse (U2, log 6). Safe: the machine stops and nothing is claimed. -/
  | neverSettles
  deriving DecidableEq, Repr

/-- Why an instruction is given no meaning. -/
inductive Refusal where
  /-- Raised only by an arm of `exec` for an instruction without a meaning; no arm does. Safe. -/
  | notModelled (mnemonic : String)
  deriving DecidableEq, Repr

/-- The block right after reset (R46, R280), with the default parameters (log 1, log 2) and no input scheduled
(log 4). -/
def State.reset : State where
  cmdArgReg := 0
  cmdOp := 0
  cmdArg := 0
  frame := 0
  rDuration := 0
  rCode := 0
  rDecode := 0
  seqPhase := .idle
  bitIdx := 0
  ivlCnt := 0
  durAcc := 0
  seqOwner := .fg
  busy := false
  ill := false
  ovr := false
  autoRpt := false
  duty := 33
  rptState := .idle
  rptWait := 0
  cancelLat := 0
  fgStage := .idle
  carrierValue := 0
  now := 0
  trace := []
  params := Params.defaults
  inputs := []
  draws := 0
  readLog := []

end Sys2Proof.Machine
end

