-- ==== Sys2Proof/Machine/Flags.lean ====
section
/-! DEFINITION. The flags and the register layouts the host sees (10_state R26, R28, R32 to R36). -/

namespace Sys2Proof.Machine

/-- The number of a phase (R28). -/
def phaseCode : Phase → BitVec 4
  | .idle => 0
  | .leadMark => 1
  | .leadSpace => 2
  | .bitMark => 3
  | .bitSpace => 4
  | .trailMark => 5
  | .rptLeadMark => 6
  | .rptSpace => 7
  | .rptTrailMark => 8

/-- `is_mark(seq_phase)`: values 1, 3, 5, 6, 8 (R28). -/
def isMark : Phase → Bool
  | .idle => false
  | .leadMark => true
  | .leadSpace => false
  | .bitMark => true
  | .bitSpace => false
  | .trailMark => true
  | .rptLeadMark => true
  | .rptSpace => false
  | .rptTrailMark => true

/-- The code of `seq_owner`: 0 FG, 1 BG (R31). -/
def ownerCode : Owner → BitVec 1
  | .fg => 0
  | .bg => 1

/-- The code of `rpt_state`: 0 IDLE, 1 REPEATING, 2 STOPPING (R33, R36). -/
def rptCode : RptState → BitVec 2
  | .idle => 0
  | .repeating => 1
  | .stopping => 2

/-- `MARK`, which is not stored (R32). -/
def markFlag (s : State) : Bool := s.carrierValue != 0

/-- The BG agent is inside a frame (R206, R207, R215). -/
def bgEmitting (s : State) : Bool := s.seqPhase != .idle && s.seqOwner == .bg

/-- `STATUS`, host register 2 (R33): bits 31:16 zero, `BIT_IDX` 15:11, `SEQ_PHASE` 10:7, `SEQ_OWNER` 6, `OVR` 5, `ILL` 4,
`MARK` 3, `RPT_STATE` 2:1, `BUSY` 0. -/
def statusWord (s : State) : Word :=
  (0 : BitVec 16) ++ s.bitIdx ++ phaseCode s.seqPhase ++ ownerCode s.seqOwner ++ BitVec.ofBool s.ovr ++
    BitVec.ofBool s.ill ++ BitVec.ofBool (markFlag s) ++ rptCode s.rptState ++ BitVec.ofBool s.busy

/-- `R_DECODE` of a decoded code: `{valid[24], command[23:16], address[15:0]}` (R26, R135). -/
def decodeResult (d : Decoded) : BitVec 25 :=
  BitVec.ofBool d.valid ++ d.command ++ d.address

/-- What a host write `v` to `STATUS` does: bit 4 clears `ILL`, bit 5 clears `OVR` (R33). -/
def clearSticky (v : Word) (s : State) : State :=
  { s with ill := s.ill && !v.getLsbD 4, ovr := s.ovr && !v.getLsbD 5 }

end Sys2Proof.Machine
end

