-- ==== Sys2Proof/Machine/Frame.lean ====
section
/-! DEFINITION. The wire frames in closed form (30_encoding R100 to R103) and the pairs a list of intervals writes to
TRACE (41_sequencer R157). The machine does not run these: it runs the emitter of Ops.lean, and claims say that the two
agree. -/

namespace Sys2Proof.Machine

/-- Whether the carrier is on or off during an interval (R100). -/
inductive IntervalKind where
  | mark
  | space
  deriving DecidableEq, Repr

/-- One interval of a frame (R100). -/
structure Interval where
  kind : IntervalKind
  duration : Nat
  deriving DecidableEq, Repr

/-- The two intervals of data bit `i` of the frame word `F`: the bit mark, then the space that carries the bit
(R100, R101). -/
def bitIntervals (p : Params) (F : Word) (i : Nat) : List Interval :=
  [⟨.mark, p.bitMark⟩, ⟨.space, if F.getLsbD i then p.bit1Space else p.bit0Space⟩]

/-- `frame_intervals(F)`, the 67 intervals of a full frame (R100). -/
def frameIntervals (p : Params) (F : Word) : List Interval :=
  [⟨.mark, p.leadMark⟩, ⟨.space, p.leadSpace⟩] ++ (List.range 32).flatMap (bitIntervals p F) ++ [⟨.mark, p.trailMark⟩]

/-- `repeat_intervals`, the three intervals of a repeat frame (R103). -/
def repeatIntervals (p : Params) : List Interval :=
  [⟨.mark, p.leadMark⟩, ⟨.space, p.repeatSpace⟩, ⟨.mark, p.trailMark⟩]

/-- `frame_duration(F)` (R102). -/
def frameDuration (p : Params) (F : Word) : Nat :=
  p.leadMark + p.leadSpace + 32 * p.bitMark + p.trailMark + popcount F * p.bit1Space + (32 - popcount F) * p.bit0Space

/-- The sum of the durations of a list of intervals. -/
def totalDuration : List Interval → Nat
  | [] => 0
  | iv :: rest => iv.duration + totalDuration rest

/-- The durations of the first `n` data bits of `F`, each its mark and its space (R100, R101). -/
def bitsDuration (p : Params) (F : Word) : Nat → Nat
  | 0 => 0
  | n + 1 => bitsDuration p F n + (p.bitMark + if F.getLsbD n then p.bit1Space else p.bit0Space)

/-- The sum of the durations of the intervals of a frame started so far, when the emitter is in phase `ph` at bit `i`:
what `dur_acc` holds (R30). -/
def startedDuration (p : Params) (F : Word) (ph : Phase) (i : BitVec 5) : Nat :=
  match ph with
  | .idle => 0
  | .leadMark => p.leadMark
  | .leadSpace => p.leadMark + p.leadSpace
  | .bitMark => p.leadMark + p.leadSpace + bitsDuration p F i.toNat + p.bitMark
  | .bitSpace => p.leadMark + p.leadSpace + bitsDuration p F (i.toNat + 1)
  | .trailMark => p.leadMark + p.leadSpace + bitsDuration p F 32 + p.trailMark
  | .rptLeadMark => p.leadMark
  | .rptSpace => p.leadMark + p.repeatSpace
  | .rptTrailMark => p.repeatDuration

/-- The phase belongs to a full frame: values 1 to 5 (R28, R42 point 7). -/
def inFullFrame : Phase → Bool
  | .idle => false
  | .leadMark => true
  | .leadSpace => true
  | .bitMark => true
  | .bitSpace => true
  | .trailMark => true
  | .rptLeadMark => false
  | .rptSpace => false
  | .rptTrailMark => false

/-- The phase belongs to a repeat frame: values 6 to 8 (R28). -/
def inRepeatFrame : Phase → Bool
  | .idle => false
  | .leadMark => false
  | .leadSpace => false
  | .bitMark => false
  | .bitSpace => false
  | .trailMark => false
  | .rptLeadMark => true
  | .rptSpace => true
  | .rptTrailMark => true

/-- The duration of the whole frame a phase belongs to (R102, R103). -/
def wholeDuration (p : Params) (F : Word) (ph : Phase) : Nat :=
  if inFullFrame ph then frameDuration p F else if inRepeatFrame ph then p.repeatDuration else 0

/-- The pairs the intervals write to TRACE when the first starts at `t` and a mark writes `on` (R157). -/
def intervalsTrace (on : Nat) : Nat → List Interval → List (Nat × Nat)
  | _, [] => []
  | t, iv :: rest =>
    (match iv.kind with
      | .mark => [(t, on), (t + iv.duration, 0)]
      | .space => []) ++ intervalsTrace on (t + iv.duration) rest

end Sys2Proof.Machine
end

