-- ==== Sys2Proof/Machine/Ops.lean ====
section
/-! DEFINITION. The named operations of the block: raising a condition, the issue latches, the carrier setter, the
emitter, the repeat coordinator, the join, the zero-time transitions, the settle and the tick. -/

namespace Sys2Proof.Machine

/-! ## Conditions: this hardware's exceptions (60_exceptions R240) -/

/-- The conditions that are raised (00_scope R11). -/
inductive Condition where
  /-- E4, an illegal command word (R244). -/
  | illegal
  /-- E5, a command-port write while busy (R245). -/
  | overrun
  deriving DecidableEq, Repr

/-- `raise Illegal` sets `ILL`, `raise Overrun` sets `OVR`, and nothing else: there is no trap, no saved state and no
return (R11, R244, R245, R254). -/
def raise (c : Condition) (s : State) : State :=
  match c with
  | .illegal => { s with ill := true }
  | .overrun => { s with ovr := true }

/-! ## Issue latches (30_encoding R92) -/

/-- The issue latches: `cmd_op`, `cmd_arg` and `auto_rpt` (R92). -/
def latch (op : Byte) (arg : Word) (auto : Bool) (s : State) : State :=
  { s with cmdOp := op, cmdArg := arg, autoRpt := auto }

/-- An illegal command word: it is latched, `auto_rpt` falls, `ILL` is set; nothing else (R92, R96, R244). -/
def issueIllegal (op : Byte) (arg : Word) (s : State) : State :=
  raise .illegal (latch op arg false s)

/-! ## The carrier setter (R11, R71, R150) -/

/-- `ON_VALUE = floor(TOP * DUTY / 100)` (R150). -/
def onValue (s : State) : Nat := s.params.top * s.duty.toNat / 100

/-- `CarrierSet(v)`: the value is the block's output and `(now, v)` joins TRACE (R11, R13). -/
def carrierSet (v : Nat) (s : State) : State :=
  { s with carrierValue := v, trace := s.trace ++ [(s.now, v)] }

/-! ## The emitter (41_sequencer R153, R154) -/

/-- The two kinds of frame (R153). -/
inductive FrameKind where
  | full
  | repeatFrame
  deriving DecidableEq, Repr

/-- `dur(seq_phase, bit_idx, FRAME)` (R28). -/
def dur (p : Params) (ph : Phase) (i : BitVec 5) (F : Word) : Nat :=
  match ph with
  | .idle => 0
  | .leadMark => p.leadMark
  | .leadSpace => p.leadSpace
  | .bitMark => p.bitMark
  | .bitSpace => if F.getLsbD i.toNat then p.bit1Space else p.bit0Space
  | .trailMark => p.trailMark
  | .rptLeadMark => p.leadMark
  | .rptSpace => p.repeatSpace
  | .rptTrailMark => p.trailMark

/-- The position and the counters an interval starts with: `enter` without its `CarrierSet` (R153). -/
def loadInterval (ph : Phase) (i : BitVec 5) (s : State) : State :=
  { s with
    seqPhase := ph
    bitIdx := i
    ivlCnt := toWord (dur s.params ph i s.frame)
    durAcc := s.durAcc + toWord (dur s.params ph i s.frame) }

/-- `CarrierSet(v)` if the phase is a mark (R153). -/
def carrierIfMark (ph : Phase) (v : Nat) (s : State) : State :=
  if isMark ph then carrierSet v s else s

/-- `enter(P, i)` (R153). -/
def enter (ph : Phase) (i : BitVec 5) (s : State) : State :=
  carrierIfMark ph (onValue s) (loadInterval ph i s)

/-- The first phase of a frame (R153). -/
def firstPhase : FrameKind → Phase
  | .full => .leadMark
  | .repeatFrame => .rptLeadMark

/-- `start_frame(owner, kind)` (R153). -/
def startFrame (owner : Owner) (kind : FrameKind) (s : State) : State :=
  enter (firstPhase kind) 0 { s with seqOwner := owner, durAcc := 0 }

/-- `start_session(w)` (R202). -/
def startSession (w : Nat) (s : State) : State :=
  { s with rptState := .repeating, rptWait := toWord w }

/-- The session a `SEND` with `auto_rpt = 1` starts when its frame of duration `d` ends (R183, R213). -/
def startSessionIfAuto (d : Word) (s : State) : State :=
  if s.cmdOp = opSend ∧ s.autoRpt = true then startSession (satSub s.params.repeatPeriod d.toNat) s else s

/-- `fg_complete(d)` (R213). -/
def fgComplete (d : Word) (s : State) : State :=
  { startSessionIfAuto d { s with rDuration := d } with fgStage := .idle, busy := false }

/-- `bg_frame_done(d)` (R204). -/
def bgFrameDone (d : Word) (s : State) : State :=
  { s with rptWait := toWord (satSub s.params.repeatPeriod d.toNat) }

/-- `frame_end()` (R154). -/
def frameEnd (s : State) : State :=
  match s.seqOwner with
  | .fg => fgComplete s.durAcc { s with seqPhase := .idle }
  | .bg => bgFrameDone s.durAcc { s with seqPhase := .idle }

/-- Where the emitter goes when an interval ends: the next position, or the end of the frame (R153). -/
def nextPosition : Phase → BitVec 5 → Option (Phase × BitVec 5)
  | .idle, _ => none
  | .leadMark, _ => some (.leadSpace, 0)
  | .leadSpace, _ => some (.bitMark, 0)
  | .bitMark, i => some (.bitSpace, i)
  | .bitSpace, i => if i.toNat < 31 then some (.bitMark, i + 1) else some (.trailMark, 31)
  | .trailMark, _ => none
  | .rptLeadMark, _ => some (.rptSpace, 0)
  | .rptSpace, _ => some (.rptTrailMark, 0)
  | .rptTrailMark, _ => none

/-- The body of `interval_end` once the mark is over: enter the next interval, or end the frame (R153). -/
def advance (s : State) : State :=
  match nextPosition s.seqPhase s.bitIdx with
  | some (ph, i) => enter ph i s
  | none => frameEnd s

/-- The interval-end transition (R153). -/
def intervalEnd (s : State) : State :=
  advance (carrierIfMark s.seqPhase 0 s)

/-! ## The repeat coordinator (43_repeat R204 to R207) -/

/-- The latency a cancellation request loads: a free draw in `0 .. CANCEL_LATENCY_MAX` where BG waits, and 0 where BG is
inside a frame, which completes first (R38, R206; 92_eei_decisions D12; log 3, log 9). -/
def cancelLatency (s : State) : Nat :=
  if bgEmitting s then 0 else Config.delta s.params s.draws

/-- `request_cancel()` (R205). A draw is made only where BG waits (D12, log 9). -/
def requestCancel (s : State) : State :=
  match s.rptState with
  | .repeating =>
    { s with
      rptState := .stopping
      cancelLat := toWord (cancelLatency s)
      draws := if bgEmitting s then s.draws else s.draws + 1 }
  | .idle => s
  | .stopping => s

/-- `bg_fire` (R204). -/
def bgFire (s : State) : State := startFrame .bg .repeatFrame s

/-- `bg_stop` (R207). -/
def bgStop (s : State) : State := { s with rptState := .idle, rptWait := 0 }

/-! ## The join (R210 to R212) -/

/-- `begin_join()` (R210). -/
def beginJoin (s : State) : State := requestCancel { s with busy := true, fgStage := .join }

/-- A frame of the foreground leaving the join (R212). -/
def fgStart (kind : FrameKind) (s : State) : State := startFrame .fg kind { s with fgStage := .emit }

/-- The commands that join, by the latches: `SEND_RAW` only with a valid code (R210, R212). -/
def joining (op : Byte) (arg : Word) : Bool :=
  op == opSendBytes || op == opSendRepeatFrame || op == opSend || (op == opSendRaw && (decodeRaw arg).valid) ||
    op == opStopRepeat

/-- `fg_join_done` (R212), by the command latched in `cmd_op`. Its last arm is `STOP_REPEAT`: the transition is enabled
for the joining commands only (log 11). -/
def fgJoinDone (s : State) : State :=
  if s.cmdOp = opSendBytes then fgStart .full { s with frame := s.cmdArg }
  else if s.cmdOp = opSend then fgStart .full { s with frame := sendFrame s.cmdArg }
  else if s.cmdOp = opSendRaw then fgStart .full { s with frame := sendRawFrame s.cmdArg }
  else if s.cmdOp = opSendRepeatFrame then fgStart .repeatFrame s
  else { s with fgStage := .idle, busy := false }

/-! ## The zero-time transitions and the settle (R216) -/

/-- `interval_end` is enabled (R153). -/
def intervalEndEnabled (s : State) : Bool := s.seqPhase != .idle && s.ivlCnt == 0

/-- `bg_stop` is enabled (R207). -/
def bgStopEnabled (s : State) : Bool := s.rptState == .stopping && !bgEmitting s && s.cancelLat == 0

/-- `fg_join_done` is enabled (R212). -/
def fgJoinDoneEnabled (s : State) : Bool :=
  s.fgStage == .join && s.rptState == .idle && joining s.cmdOp s.cmdArg

/-- `bg_fire` is enabled (R204). -/
def bgFireEnabled (s : State) : Bool := s.rptState == .repeating && s.seqPhase == .idle && s.rptWait == 0

/-- The zero-time transition to take, none where none is enabled (R216). At most one is enabled in a state of a run;
elsewhere the order is R216's (log 12). -/
def zeroTime (s : State) : Option State :=
  if intervalEndEnabled s then some (intervalEnd s)
  else if bgStopEnabled s then some (bgStop s)
  else if fgJoinDoneEnabled s then some (fgJoinDone s)
  else if bgFireEnabled s then some (bgFire s)
  else none

/-- Take zero-time transitions until none is enabled, at most `fuel` of them (R216). -/
def settle : Nat → State → Option State
  | 0, s =>
    match zeroTime s with
    | none => some s
    | some _ => none
  | fuel + 1, s =>
    match zeroTime s with
    | none => some s
    | some s' => settle fuel s'

/-- More transitions than any settle that ends can take, whatever the parameters: two frames and the joins between
(log 6). -/
def settleFuel : Nat := 128

/-! ## The tick (R215) -/

/-- One tick passes (R215). -/
def tick (s : State) : State :=
  { s with
    now := s.now + 1
    ivlCnt := if s.seqPhase ≠ .idle then s.ivlCnt - 1 else s.ivlCnt
    rptWait :=
      if s.rptState = .repeating ∧ s.seqPhase = .idle ∧ s.rptWait ≠ 0 then s.rptWait - 1 else s.rptWait
    cancelLat :=
      if s.rptState = .stopping ∧ bgEmitting s = false ∧ s.cancelLat ≠ 0 then s.cancelLat - 1 else s.cancelLat }

/-- The rest of an instant after the host's access: settle, then tick (R216). -/
def finishInstant (s : State) : Host.Outcome State Fault Refusal :=
  match settle settleFuel s with
  | some t => .next (tick t)
  | none => .fault .neverSettles

/-- What follows an outcome: the next state goes on, a stop stays. -/
def andThen (o : Host.Outcome State Fault Refusal) (f : State → Host.Outcome State Fault Refusal) :
    Host.Outcome State Fault Refusal :=
  match o with
  | .next s => f s
  | .fault r => .fault r
  | .refused r => .refused r

/-! ## Reset and the schedule of inputs (R280, R12) -/

/-- The reset input: every element has its reset value, and a new run starts with `now` 0 and TRACE empty (R280, R282).
The parameters, the inputs still to come and the count of draws are outside the block and stay (R45, log 13). -/
def resetBlock (s : State) : State :=
  { State.reset with params := s.params, inputs := s.inputs, draws := s.draws }

/-- The input of this instant, if any, and the state with the schedule moved on (R12, log 4). -/
def takeInput (s : State) : Option InputEvent × State :=
  match s.inputs with
  | [] => (none, s)
  | ⟨0, e⟩ :: rest => (some e, { s with inputs := rest })
  | ⟨d + 1, e⟩ :: rest => (none, { s with inputs := ⟨d, e⟩ :: rest })

end Sys2Proof.Machine
end

