-- ==== Sys2Proof/Machine/Codec.lean ====
section
/-! DEFINITION. The codec commands (40_codec R130, R135, R136). A meaning is the whole of a command's issue: the latches
of its own word (30_encoding R92), then its rule. -/

namespace Sys2Proof.Machine

/-- `DECODE_RAW code` (R135): `R_DECODE` from the operand, valid or not; 0 ticks, `BUSY` stays. -/
def execDecodeRaw (code : Word) (s : State) : Host.Outcome State Fault Refusal :=
  .next { latch opDecodeRaw code false s with rDecode := decodeResult (decodeRaw code) }

/-- `ENCODE_RAW address, command` (R136): `R_CODE` from the operands; 0 ticks, `BUSY` stays. -/
def execEncodeRaw (address : Half) (command : Byte) (s : State) : Host.Outcome State Fault Refusal :=
  .next { latch opEncodeRaw (packAC address command) false s with rCode := encodeRaw address command }

end Sys2Proof.Machine
end

