-- ==== Sys2Proof/Machine/Configure.lean ====
section
/-! DEFINITION. The configuration command (44_config_status R230). -/

namespace Sys2Proof.Machine

/-- `CONFIGURE duty` (R230): `DUTY` with the fallback of R243; 0 ticks, no join, no flag. -/
def execConfigure (duty : Byte) (s : State) : Host.Outcome State Fault Refusal :=
  .next { latch opConfigure (packD duty) false s with duty := legalDuty duty }

end Sys2Proof.Machine
end

