-- ==== Sys2Proof/Machine/Repeat.lean ====
section
/-! DEFINITION. The explicit stop (43_repeat R208). -/

namespace Sys2Proof.Machine

/-- `STOP_REPEAT` (R208): latch and join; the end of the join is its completion (R212). -/
def execStopRepeat (s : State) : Host.Outcome State Fault Refusal :=
  .next (beginJoin (latch opStopRepeat packZ false s))

end Sys2Proof.Machine
end

