-- ==== Sys2Proof/Machine/Send.lean ====
section
/-! DEFINITION. The composite sends (42_send R180, R185). -/

namespace Sys2Proof.Machine

/-- `SEND address, command, auto_repeat` (R180): latch, with `auto_rpt` from the operand, and join. -/
def execSend (address : Half) (command : Byte) (autoRepeat : Bool) (s : State) :
    Host.Outcome State Fault Refusal :=
  .next (beginJoin (latch opSend (packACR address command autoRepeat) autoRepeat s))

/-- `SEND_RAW code` (R185): a valid code joins; an invalid one gives `R_DURATION` 0 and does nothing else (R188). -/
def execSendRaw (code : Word) (s : State) : Host.Outcome State Fault Refusal :=
  if (decodeRaw code).valid then .next (beginJoin (latch opSendRaw code false s))
  else .next { latch opSendRaw code false s with rDuration := 0 }

end Sys2Proof.Machine
end

