-- ==== Sys2Proof/Machine/Sequencer.lean ====
section
/-! DEFINITION. The commands that emit one frame (41_sequencer R156, R158). Each joins at issue; its frame starts when
the join ends (`fgJoinDone`, R212) and its results are written when the frame ends (`fgComplete`, R213). -/

namespace Sys2Proof.Machine

/-- `SEND_BYTES low, high, cmd, inv_cmd` (R156): latch the four bytes and join. The bytes are not checked (R104). -/
def execSendBytes (low high cmd invCmd : Byte) (s : State) : Host.Outcome State Fault Refusal :=
  .next (beginJoin (latch opSendBytes (packB low high cmd invCmd) false s))

/-- `SEND_REPEAT_FRAME` (R158): latch and join. -/
def execSendRepeatFrame (s : State) : Host.Outcome State Fault Refusal :=
  .next (beginJoin (latch opSendRepeatFrame packZ false s))

end Sys2Proof.Machine
end

