-- ==== Sys2Proof/Machine/Dispatch.lean ====
section
/-! DEFINITION. One arm per command (30_encoding R93). -/

namespace Sys2Proof.Machine

/-- The effect of a command at the instant it is issued (R92). -/
def exec (i : Instr) (s : State) : Host.Outcome State Fault Refusal :=
  match i with
  | .decodeRaw code => Sys2Proof.Machine.execDecodeRaw code s
  | .encodeRaw address command => Sys2Proof.Machine.execEncodeRaw address command s
  | .sendBytes low high cmd invCmd => Sys2Proof.Machine.execSendBytes low high cmd invCmd s
  | .sendRepeatFrame => Sys2Proof.Machine.execSendRepeatFrame s
  | .send address command autoRepeat => Sys2Proof.Machine.execSend address command autoRepeat s
  | .sendRaw code => Sys2Proof.Machine.execSendRaw code s
  | .stopRepeat => Sys2Proof.Machine.execStopRepeat s
  | .configure duty => Sys2Proof.Machine.execConfigure duty s

end Sys2Proof.Machine
end

