-- ==== Sys2Proof/Machine/Port.lean ====
section
/-! DEFINITION. The host register port (20_memory R61 to R65, 30_encoding R92) and the instant it stands in
(43_repeat R216). -/

namespace Sys2Proof.Machine

/-- `MemRead(idx, 4)` (R61, R62, R64): the register laid out as R25, R26, R33, R34, R35 say, every other bit 0; index 7
and above read 0. -/
def hostRead (idx : Nat) (s : State) : Word :=
  match idx with
  | 0 => s.cmdArgReg
  | 1 => s.cmdOp.setWidth 32
  | 2 => statusWord s
  | 3 => s.rDuration
  | 4 => s.rCode
  | 5 => s.rDecode.setWidth 32
  | 6 => s.duty.setWidth 32
  | _ => 0

/-- Issue of the command word `{op, CMD_ARG}` (R92): a legal word runs its command, which latches the word; an illegal
one is latched and flagged. -/
def issue (op : Byte) (s : State) : Host.Outcome State Fault Refusal :=
  match decode (cmdWord op s.cmdArgReg) with
  | .ok i => exec i s
  | .error _ => .next (issueIllegal op s.cmdArgReg s)

/-- `MemWrite(idx, 4, v)` (R63): a command-port write while busy is dropped and raises Overrun (R65). -/
def hostWrite (idx : Nat) (v : Word) (s : State) : Host.Outcome State Fault Refusal :=
  match idx with
  | 0 => if s.busy then .next (raise .overrun s) else .next { s with cmdArgReg := v }
  | 1 => if s.busy then .next (raise .overrun s) else issue (byte0 v) s
  | 2 => .next (clearSticky v s)
  | _ => .next s

/-- The record of a host read (R62, log 14). -/
def recordRead (idx : Nat) (s : State) : State :=
  { s with readLog := s.readLog ++ [⟨s.now, idx, hostRead idx s⟩] }

/-- One instant with the input taken (R216): the access first, then the settle and the tick. A reset ends the run, and
the next step is instant 0 of the new one (R280, log 13). -/
def runInstant (e : Option InputEvent) (s : State) : Host.Outcome State Fault Refusal :=
  match e with
  | none => finishInstant s
  | some (.read idx) => finishInstant (recordRead idx s)
  | some (.write idx v) => andThen (hostWrite idx v s) finishInstant
  | some .reset => .next (resetBlock s)

/-- One instant (R216). -/
def instant (s : State) : Host.Outcome State Fault Refusal :=
  runInstant (takeInput s).1 (takeInput s).2

/-- `s` with the command word `w` about to be issued: its operand in `CMD_ARG` and the write of its opcode to `CMD_OP` as
the very next access (R90, R98, log 16). -/
def placeCommand (w : CmdWord) (s : State) : State :=
  { s with cmdArgReg := argField w, inputs := ⟨0, .write 1 ((opField w).setWidth 32)⟩ :: s.inputs }

end Sys2Proof.Machine
end

