-- ==== Sys2Proof/Machine/Step.lean ====
section
/-! DEFINITION. The step: one instant of R216. -/

namespace Sys2Proof.Machine

/-- One step is one instant: the host's access, the settle, the tick (43_repeat R216, log 5). -/
def step (s : State) : Host.Outcome State Fault Refusal := instant s

/-- `s` with the instruction of a table row placed where the next step issues it (log 16). -/
def State.withFetchWord (s : State) (nbits w : Nat) : State := placeCommand (tableWord nbits w) s

end Sys2Proof.Machine
end

