-- ==== Sys2Proof/Laws/Encoding.lean ====
section
/-! SUPPORT. The bits of every packed word, one lemma per format, and the fields the slices of R91 read back. -/

namespace Sys2Proof

/-! ## Bits of the packed words -/

theorem getLsbD_cmdWord (op : Byte) (arg : Word) (i : Nat) :
    (cmdWord op arg).getLsbD i = if i < 32 then arg.getLsbD i else op.getLsbD (i - 32) :=
  (BitVec.getLsbD_append (x := op) (y := arg) (i := i)).trans (by split <;> rfl)

theorem getLsbD_packB (low high cmd invCmd : Byte) (i : Nat) :
    (packB low high cmd invCmd).getLsbD i =
      if i < 8 then low.getLsbD i else if i < 16 then high.getLsbD (i - 8)
      else if i < 24 then cmd.getLsbD (i - 16) else invCmd.getLsbD (i - 24) := by
  have h1 : (packB low high cmd invCmd).getLsbD i =
      if i < 8 then low.getLsbD i else (invCmd ++ cmd ++ high).getLsbD (i - 8) :=
    (BitVec.getLsbD_append (x := invCmd ++ cmd ++ high) (y := low) (i := i)).trans (by split <;> rfl)
  rw [h1, BitVec.getLsbD_append (x := invCmd ++ cmd), BitVec.getLsbD_append (x := invCmd)]
  split_ifs <;> first | omega | rfl

theorem getLsbD_packAC (address : Half) (command : Byte) (i : Nat) :
    (packAC address command).getLsbD i =
      if i < 16 then address.getLsbD i else if i < 24 then command.getLsbD (i - 16) else false := by
  have h1 : (packAC address command).getLsbD i =
      if i < 16 then address.getLsbD i else ((0 : Byte) ++ command).getLsbD (i - 16) :=
    (BitVec.getLsbD_append (x := (0 : Byte) ++ command) (y := address) (i := i)).trans (by split <;> rfl)
  rw [h1, BitVec.getLsbD_append (x := (0 : Byte))]
  split_ifs <;> first | omega | rfl | simp

theorem getLsbD_packACR (address : Half) (command : Byte) (autoRepeat : Bool) (i : Nat) :
    (packACR address command autoRepeat).getLsbD i =
      if i < 16 then address.getLsbD i else if i < 24 then command.getLsbD (i - 16)
      else if i = 24 then autoRepeat else false := by
  have h1 : (packACR address command autoRepeat).getLsbD i =
      if i < 16 then address.getLsbD i
      else ((0 : BitVec 7) ++ BitVec.ofBool autoRepeat ++ command).getLsbD (i - 16) :=
    (BitVec.getLsbD_append (x := (0 : BitVec 7) ++ BitVec.ofBool autoRepeat ++ command) (y := address)
      (i := i)).trans (by split <;> rfl)
  rw [h1, BitVec.getLsbD_append (x := (0 : BitVec 7) ++ BitVec.ofBool autoRepeat),
    BitVec.getLsbD_append (x := (0 : BitVec 7))]
  by_cases h : i = 24
  · subst h; cases autoRepeat <;> rfl
  · split_ifs <;> first | omega | rfl | simp

theorem getLsbD_packD (duty : Byte) (i : Nat) :
    (packD duty).getLsbD i = if i < 8 then duty.getLsbD i else false :=
  (BitVec.getLsbD_append (x := (0 : BitVec 24)) (y := duty) (i := i)).trans (by split <;> simp)

@[simp] theorem getLsbD_packZ (i : Nat) : packZ.getLsbD i = false := by simp [packZ]

/-! ## Fields read back -/

@[simp] theorem opField_cmdWord (op : Byte) (arg : Word) : opField (cmdWord op arg) = op := by
  apply BitVec.eq_of_getLsbD_eq
  intro i hi
  simp [opField, getLsbD_cmdWord, hi]

@[simp] theorem argField_cmdWord (op : Byte) (arg : Word) : argField (cmdWord op arg) = arg := by
  apply BitVec.eq_of_getLsbD_eq
  intro i hi
  simp [argField, getLsbD_cmdWord, hi]

theorem cmdWord_fields (w : CmdWord) : cmdWord (opField w) (argField w) = w := by
  apply BitVec.eq_of_getLsbD_eq
  intro i hi
  rw [getLsbD_cmdWord]
  split
  · simp [argField, *]
  · simp only [opField, BitVec.getLsbD_extractLsb']
    rw [decide_eq_true (by omega : i - 32 < 8), Bool.true_and]
    congr 1
    omega

/-- A 32-bit word is its four bytes (R66). -/
theorem packB_bytes (v : Word) : packB (byte0 v) (byte1 v) (byte2 v) (byte3 v) = v := by
  apply BitVec.eq_of_getLsbD_eq
  intro i hi
  rw [getLsbD_packB]
  simp only [byte0, byte1, byte2, byte3, BitVec.getLsbD_extractLsb']
  split_ifs <;>
    (rw [decide_eq_true (by omega), Bool.true_and]; congr 1; omega)

@[simp] theorem byte0_packB (l h c v : Byte) : byte0 (packB l h c v) = l := by
  apply BitVec.eq_of_getLsbD_eq
  intro i hi
  simp only [byte0, BitVec.getLsbD_extractLsb', getLsbD_packB]
  split_ifs <;> first | omega | simp [hi]

@[simp] theorem byte1_packB (l h c v : Byte) : byte1 (packB l h c v) = h := by
  apply BitVec.eq_of_getLsbD_eq
  intro i hi
  simp only [byte1, BitVec.getLsbD_extractLsb', getLsbD_packB]
  split_ifs <;> first | omega | simp [hi]

@[simp] theorem byte2_packB (l h c v : Byte) : byte2 (packB l h c v) = c := by
  apply BitVec.eq_of_getLsbD_eq
  intro i hi
  simp only [byte2, BitVec.getLsbD_extractLsb', getLsbD_packB]
  split_ifs <;> first | omega | simp [hi]

@[simp] theorem byte3_packB (l h c v : Byte) : byte3 (packB l h c v) = v := by
  apply BitVec.eq_of_getLsbD_eq
  intro i hi
  simp only [byte3, BitVec.getLsbD_extractLsb', getLsbD_packB]
  split_ifs <;> first | omega | simp [hi]

@[simp] theorem addressField_packAC (a : Half) (c : Byte) : addressField (packAC a c) = a := by
  apply BitVec.eq_of_getLsbD_eq
  intro i hi
  simp [addressField, getLsbD_packAC, hi]

@[simp] theorem byte2_packAC (a : Half) (c : Byte) : byte2 (packAC a c) = c := by
  apply BitVec.eq_of_getLsbD_eq
  intro i hi
  simp only [byte2, BitVec.getLsbD_extractLsb', getLsbD_packAC]
  split_ifs <;> first | omega | simp [hi]

@[simp] theorem addressField_packACR (a : Half) (c : Byte) (r : Bool) : addressField (packACR a c r) = a := by
  apply BitVec.eq_of_getLsbD_eq
  intro i hi
  simp [addressField, getLsbD_packACR, hi]

@[simp] theorem byte2_packACR (a : Half) (c : Byte) (r : Bool) : byte2 (packACR a c r) = c := by
  apply BitVec.eq_of_getLsbD_eq
  intro i hi
  simp only [byte2, BitVec.getLsbD_extractLsb', getLsbD_packACR]
  split_ifs <;> first | omega | simp [hi]

@[simp] theorem autoRepeatField_packACR (a : Half) (c : Byte) (r : Bool) :
    autoRepeatField (packACR a c r) = r :=
  getLsbD_packACR a c r 24

@[simp] theorem byte0_packD (d : Byte) : byte0 (packD d) = d := by
  apply BitVec.eq_of_getLsbD_eq
  intro i hi
  simp [byte0, getLsbD_packD, hi]

/-- The low byte of a value written to `CMD_OP` is the opcode (R92). -/
@[simp] theorem byte0_setWidth (op : Byte) : byte0 (op.setWidth 32) = op := by
  apply BitVec.eq_of_getLsbD_eq
  intro i hi
  simp [byte0, hi]
  omega

end Sys2Proof
end

