-- ==== Sys2Proof/Laws/State.lean ====
section
/-! SUPPORT. What each named update of State.lean's record leaves in each field: one lemma per field per update, so that no
proof unfolds an update. -/

namespace Sys2Proof.Machine

variable (s : State)

/-! ## The issue latches (R92) -/

@[simp] theorem latch_cmdArgReg (op : Byte) (arg : Word) (auto : Bool) : (latch op arg auto s).cmdArgReg = s.cmdArgReg := rfl
@[simp] theorem latch_cmdOp (op : Byte) (arg : Word) (auto : Bool) : (latch op arg auto s).cmdOp = op := rfl
@[simp] theorem latch_cmdArg (op : Byte) (arg : Word) (auto : Bool) : (latch op arg auto s).cmdArg = arg := rfl
@[simp] theorem latch_frame (op : Byte) (arg : Word) (auto : Bool) : (latch op arg auto s).frame = s.frame := rfl
@[simp] theorem latch_rDuration (op : Byte) (arg : Word) (auto : Bool) : (latch op arg auto s).rDuration = s.rDuration := rfl
@[simp] theorem latch_rCode (op : Byte) (arg : Word) (auto : Bool) : (latch op arg auto s).rCode = s.rCode := rfl
@[simp] theorem latch_rDecode (op : Byte) (arg : Word) (auto : Bool) : (latch op arg auto s).rDecode = s.rDecode := rfl
@[simp] theorem latch_seqPhase (op : Byte) (arg : Word) (auto : Bool) : (latch op arg auto s).seqPhase = s.seqPhase := rfl
@[simp] theorem latch_bitIdx (op : Byte) (arg : Word) (auto : Bool) : (latch op arg auto s).bitIdx = s.bitIdx := rfl
@[simp] theorem latch_ivlCnt (op : Byte) (arg : Word) (auto : Bool) : (latch op arg auto s).ivlCnt = s.ivlCnt := rfl
@[simp] theorem latch_durAcc (op : Byte) (arg : Word) (auto : Bool) : (latch op arg auto s).durAcc = s.durAcc := rfl
@[simp] theorem latch_seqOwner (op : Byte) (arg : Word) (auto : Bool) : (latch op arg auto s).seqOwner = s.seqOwner := rfl
@[simp] theorem latch_busy (op : Byte) (arg : Word) (auto : Bool) : (latch op arg auto s).busy = s.busy := rfl
@[simp] theorem latch_ill (op : Byte) (arg : Word) (auto : Bool) : (latch op arg auto s).ill = s.ill := rfl
@[simp] theorem latch_ovr (op : Byte) (arg : Word) (auto : Bool) : (latch op arg auto s).ovr = s.ovr := rfl
@[simp] theorem latch_autoRpt (op : Byte) (arg : Word) (auto : Bool) : (latch op arg auto s).autoRpt = auto := rfl
@[simp] theorem latch_duty (op : Byte) (arg : Word) (auto : Bool) : (latch op arg auto s).duty = s.duty := rfl
@[simp] theorem latch_rptState (op : Byte) (arg : Word) (auto : Bool) : (latch op arg auto s).rptState = s.rptState := rfl
@[simp] theorem latch_rptWait (op : Byte) (arg : Word) (auto : Bool) : (latch op arg auto s).rptWait = s.rptWait := rfl
@[simp] theorem latch_cancelLat (op : Byte) (arg : Word) (auto : Bool) : (latch op arg auto s).cancelLat = s.cancelLat := rfl
@[simp] theorem latch_fgStage (op : Byte) (arg : Word) (auto : Bool) : (latch op arg auto s).fgStage = s.fgStage := rfl
@[simp] theorem latch_carrierValue (op : Byte) (arg : Word) (auto : Bool) : (latch op arg auto s).carrierValue = s.carrierValue := rfl
@[simp] theorem latch_now (op : Byte) (arg : Word) (auto : Bool) : (latch op arg auto s).now = s.now := rfl
@[simp] theorem latch_trace (op : Byte) (arg : Word) (auto : Bool) : (latch op arg auto s).trace = s.trace := rfl
@[simp] theorem latch_params (op : Byte) (arg : Word) (auto : Bool) : (latch op arg auto s).params = s.params := rfl
@[simp] theorem latch_inputs (op : Byte) (arg : Word) (auto : Bool) : (latch op arg auto s).inputs = s.inputs := rfl
@[simp] theorem latch_draws (op : Byte) (arg : Word) (auto : Bool) : (latch op arg auto s).draws = s.draws := rfl
@[simp] theorem latch_readLog (op : Byte) (arg : Word) (auto : Bool) : (latch op arg auto s).readLog = s.readLog := rfl

/-! ## The carrier setter (R11) -/

@[simp] theorem carrierSet_cmdArgReg (v : Nat) : (carrierSet v s).cmdArgReg = s.cmdArgReg := rfl
@[simp] theorem carrierSet_cmdOp (v : Nat) : (carrierSet v s).cmdOp = s.cmdOp := rfl
@[simp] theorem carrierSet_cmdArg (v : Nat) : (carrierSet v s).cmdArg = s.cmdArg := rfl
@[simp] theorem carrierSet_frame (v : Nat) : (carrierSet v s).frame = s.frame := rfl
@[simp] theorem carrierSet_rDuration (v : Nat) : (carrierSet v s).rDuration = s.rDuration := rfl
@[simp] theorem carrierSet_rCode (v : Nat) : (carrierSet v s).rCode = s.rCode := rfl
@[simp] theorem carrierSet_rDecode (v : Nat) : (carrierSet v s).rDecode = s.rDecode := rfl
@[simp] theorem carrierSet_seqPhase (v : Nat) : (carrierSet v s).seqPhase = s.seqPhase := rfl
@[simp] theorem carrierSet_bitIdx (v : Nat) : (carrierSet v s).bitIdx = s.bitIdx := rfl
@[simp] theorem carrierSet_ivlCnt (v : Nat) : (carrierSet v s).ivlCnt = s.ivlCnt := rfl
@[simp] theorem carrierSet_durAcc (v : Nat) : (carrierSet v s).durAcc = s.durAcc := rfl
@[simp] theorem carrierSet_seqOwner (v : Nat) : (carrierSet v s).seqOwner = s.seqOwner := rfl
@[simp] theorem carrierSet_busy (v : Nat) : (carrierSet v s).busy = s.busy := rfl
@[simp] theorem carrierSet_ill (v : Nat) : (carrierSet v s).ill = s.ill := rfl
@[simp] theorem carrierSet_ovr (v : Nat) : (carrierSet v s).ovr = s.ovr := rfl
@[simp] theorem carrierSet_autoRpt (v : Nat) : (carrierSet v s).autoRpt = s.autoRpt := rfl
@[simp] theorem carrierSet_duty (v : Nat) : (carrierSet v s).duty = s.duty := rfl
@[simp] theorem carrierSet_rptState (v : Nat) : (carrierSet v s).rptState = s.rptState := rfl
@[simp] theorem carrierSet_rptWait (v : Nat) : (carrierSet v s).rptWait = s.rptWait := rfl
@[simp] theorem carrierSet_cancelLat (v : Nat) : (carrierSet v s).cancelLat = s.cancelLat := rfl
@[simp] theorem carrierSet_fgStage (v : Nat) : (carrierSet v s).fgStage = s.fgStage := rfl
@[simp] theorem carrierSet_carrierValue (v : Nat) : (carrierSet v s).carrierValue = v := rfl
@[simp] theorem carrierSet_now (v : Nat) : (carrierSet v s).now = s.now := rfl
@[simp] theorem carrierSet_trace (v : Nat) : (carrierSet v s).trace = s.trace ++ [(s.now, v)] := rfl
@[simp] theorem carrierSet_params (v : Nat) : (carrierSet v s).params = s.params := rfl
@[simp] theorem carrierSet_inputs (v : Nat) : (carrierSet v s).inputs = s.inputs := rfl
@[simp] theorem carrierSet_draws (v : Nat) : (carrierSet v s).draws = s.draws := rfl
@[simp] theorem carrierSet_readLog (v : Nat) : (carrierSet v s).readLog = s.readLog := rfl

/-! ## The load of an interval (R153) -/

@[simp] theorem loadInterval_cmdArgReg (ph : Phase) (i : BitVec 5) : (loadInterval ph i s).cmdArgReg = s.cmdArgReg := rfl
@[simp] theorem loadInterval_cmdOp (ph : Phase) (i : BitVec 5) : (loadInterval ph i s).cmdOp = s.cmdOp := rfl
@[simp] theorem loadInterval_cmdArg (ph : Phase) (i : BitVec 5) : (loadInterval ph i s).cmdArg = s.cmdArg := rfl
@[simp] theorem loadInterval_frame (ph : Phase) (i : BitVec 5) : (loadInterval ph i s).frame = s.frame := rfl
@[simp] theorem loadInterval_rDuration (ph : Phase) (i : BitVec 5) : (loadInterval ph i s).rDuration = s.rDuration := rfl
@[simp] theorem loadInterval_rCode (ph : Phase) (i : BitVec 5) : (loadInterval ph i s).rCode = s.rCode := rfl
@[simp] theorem loadInterval_rDecode (ph : Phase) (i : BitVec 5) : (loadInterval ph i s).rDecode = s.rDecode := rfl
@[simp] theorem loadInterval_seqPhase (ph : Phase) (i : BitVec 5) : (loadInterval ph i s).seqPhase = ph := rfl
@[simp] theorem loadInterval_bitIdx (ph : Phase) (i : BitVec 5) : (loadInterval ph i s).bitIdx = i := rfl
@[simp] theorem loadInterval_ivlCnt (ph : Phase) (i : BitVec 5) : (loadInterval ph i s).ivlCnt = toWord (dur s.params ph i s.frame) := rfl
@[simp] theorem loadInterval_durAcc (ph : Phase) (i : BitVec 5) :
    (loadInterval ph i s).durAcc = s.durAcc + toWord (dur s.params ph i s.frame) := rfl

@[simp] theorem loadInterval_seqOwner (ph : Phase) (i : BitVec 5) : (loadInterval ph i s).seqOwner = s.seqOwner := rfl
@[simp] theorem loadInterval_busy (ph : Phase) (i : BitVec 5) : (loadInterval ph i s).busy = s.busy := rfl
@[simp] theorem loadInterval_ill (ph : Phase) (i : BitVec 5) : (loadInterval ph i s).ill = s.ill := rfl
@[simp] theorem loadInterval_ovr (ph : Phase) (i : BitVec 5) : (loadInterval ph i s).ovr = s.ovr := rfl
@[simp] theorem loadInterval_autoRpt (ph : Phase) (i : BitVec 5) : (loadInterval ph i s).autoRpt = s.autoRpt := rfl
@[simp] theorem loadInterval_duty (ph : Phase) (i : BitVec 5) : (loadInterval ph i s).duty = s.duty := rfl
@[simp] theorem loadInterval_rptState (ph : Phase) (i : BitVec 5) : (loadInterval ph i s).rptState = s.rptState := rfl
@[simp] theorem loadInterval_rptWait (ph : Phase) (i : BitVec 5) : (loadInterval ph i s).rptWait = s.rptWait := rfl
@[simp] theorem loadInterval_cancelLat (ph : Phase) (i : BitVec 5) : (loadInterval ph i s).cancelLat = s.cancelLat := rfl
@[simp] theorem loadInterval_fgStage (ph : Phase) (i : BitVec 5) : (loadInterval ph i s).fgStage = s.fgStage := rfl
@[simp] theorem loadInterval_carrierValue (ph : Phase) (i : BitVec 5) : (loadInterval ph i s).carrierValue = s.carrierValue := rfl
@[simp] theorem loadInterval_now (ph : Phase) (i : BitVec 5) : (loadInterval ph i s).now = s.now := rfl
@[simp] theorem loadInterval_trace (ph : Phase) (i : BitVec 5) : (loadInterval ph i s).trace = s.trace := rfl
@[simp] theorem loadInterval_params (ph : Phase) (i : BitVec 5) : (loadInterval ph i s).params = s.params := rfl
@[simp] theorem loadInterval_inputs (ph : Phase) (i : BitVec 5) : (loadInterval ph i s).inputs = s.inputs := rfl
@[simp] theorem loadInterval_draws (ph : Phase) (i : BitVec 5) : (loadInterval ph i s).draws = s.draws := rfl
@[simp] theorem loadInterval_readLog (ph : Phase) (i : BitVec 5) : (loadInterval ph i s).readLog = s.readLog := rfl

/-! ## The start of a session (R202) -/

@[simp] theorem startSession_cmdArgReg (w : Nat) : (startSession w s).cmdArgReg = s.cmdArgReg := rfl
@[simp] theorem startSession_cmdOp (w : Nat) : (startSession w s).cmdOp = s.cmdOp := rfl
@[simp] theorem startSession_cmdArg (w : Nat) : (startSession w s).cmdArg = s.cmdArg := rfl
@[simp] theorem startSession_frame (w : Nat) : (startSession w s).frame = s.frame := rfl
@[simp] theorem startSession_rDuration (w : Nat) : (startSession w s).rDuration = s.rDuration := rfl
@[simp] theorem startSession_rCode (w : Nat) : (startSession w s).rCode = s.rCode := rfl
@[simp] theorem startSession_rDecode (w : Nat) : (startSession w s).rDecode = s.rDecode := rfl
@[simp] theorem startSession_seqPhase (w : Nat) : (startSession w s).seqPhase = s.seqPhase := rfl
@[simp] theorem startSession_bitIdx (w : Nat) : (startSession w s).bitIdx = s.bitIdx := rfl
@[simp] theorem startSession_ivlCnt (w : Nat) : (startSession w s).ivlCnt = s.ivlCnt := rfl
@[simp] theorem startSession_durAcc (w : Nat) : (startSession w s).durAcc = s.durAcc := rfl
@[simp] theorem startSession_seqOwner (w : Nat) : (startSession w s).seqOwner = s.seqOwner := rfl
@[simp] theorem startSession_busy (w : Nat) : (startSession w s).busy = s.busy := rfl
@[simp] theorem startSession_ill (w : Nat) : (startSession w s).ill = s.ill := rfl
@[simp] theorem startSession_ovr (w : Nat) : (startSession w s).ovr = s.ovr := rfl
@[simp] theorem startSession_autoRpt (w : Nat) : (startSession w s).autoRpt = s.autoRpt := rfl
@[simp] theorem startSession_duty (w : Nat) : (startSession w s).duty = s.duty := rfl
@[simp] theorem startSession_rptState (w : Nat) : (startSession w s).rptState = .repeating := rfl
@[simp] theorem startSession_rptWait (w : Nat) : (startSession w s).rptWait = toWord w := rfl
@[simp] theorem startSession_cancelLat (w : Nat) : (startSession w s).cancelLat = s.cancelLat := rfl
@[simp] theorem startSession_fgStage (w : Nat) : (startSession w s).fgStage = s.fgStage := rfl
@[simp] theorem startSession_carrierValue (w : Nat) : (startSession w s).carrierValue = s.carrierValue := rfl
@[simp] theorem startSession_now (w : Nat) : (startSession w s).now = s.now := rfl
@[simp] theorem startSession_trace (w : Nat) : (startSession w s).trace = s.trace := rfl
@[simp] theorem startSession_params (w : Nat) : (startSession w s).params = s.params := rfl
@[simp] theorem startSession_inputs (w : Nat) : (startSession w s).inputs = s.inputs := rfl
@[simp] theorem startSession_draws (w : Nat) : (startSession w s).draws = s.draws := rfl
@[simp] theorem startSession_readLog (w : Nat) : (startSession w s).readLog = s.readLog := rfl

/-! ## The end of a background frame (R204) -/

@[simp] theorem bgFrameDone_cmdArgReg (d : Word) : (bgFrameDone d s).cmdArgReg = s.cmdArgReg := rfl
@[simp] theorem bgFrameDone_cmdOp (d : Word) : (bgFrameDone d s).cmdOp = s.cmdOp := rfl
@[simp] theorem bgFrameDone_cmdArg (d : Word) : (bgFrameDone d s).cmdArg = s.cmdArg := rfl
@[simp] theorem bgFrameDone_frame (d : Word) : (bgFrameDone d s).frame = s.frame := rfl
@[simp] theorem bgFrameDone_rDuration (d : Word) : (bgFrameDone d s).rDuration = s.rDuration := rfl
@[simp] theorem bgFrameDone_rCode (d : Word) : (bgFrameDone d s).rCode = s.rCode := rfl
@[simp] theorem bgFrameDone_rDecode (d : Word) : (bgFrameDone d s).rDecode = s.rDecode := rfl
@[simp] theorem bgFrameDone_seqPhase (d : Word) : (bgFrameDone d s).seqPhase = s.seqPhase := rfl
@[simp] theorem bgFrameDone_bitIdx (d : Word) : (bgFrameDone d s).bitIdx = s.bitIdx := rfl
@[simp] theorem bgFrameDone_ivlCnt (d : Word) : (bgFrameDone d s).ivlCnt = s.ivlCnt := rfl
@[simp] theorem bgFrameDone_durAcc (d : Word) : (bgFrameDone d s).durAcc = s.durAcc := rfl
@[simp] theorem bgFrameDone_seqOwner (d : Word) : (bgFrameDone d s).seqOwner = s.seqOwner := rfl
@[simp] theorem bgFrameDone_busy (d : Word) : (bgFrameDone d s).busy = s.busy := rfl
@[simp] theorem bgFrameDone_ill (d : Word) : (bgFrameDone d s).ill = s.ill := rfl
@[simp] theorem bgFrameDone_ovr (d : Word) : (bgFrameDone d s).ovr = s.ovr := rfl
@[simp] theorem bgFrameDone_autoRpt (d : Word) : (bgFrameDone d s).autoRpt = s.autoRpt := rfl
@[simp] theorem bgFrameDone_duty (d : Word) : (bgFrameDone d s).duty = s.duty := rfl
@[simp] theorem bgFrameDone_rptState (d : Word) : (bgFrameDone d s).rptState = s.rptState := rfl
@[simp] theorem bgFrameDone_rptWait (d : Word) :
    (bgFrameDone d s).rptWait = toWord (satSub s.params.repeatPeriod d.toNat) := rfl

@[simp] theorem bgFrameDone_cancelLat (d : Word) : (bgFrameDone d s).cancelLat = s.cancelLat := rfl
@[simp] theorem bgFrameDone_fgStage (d : Word) : (bgFrameDone d s).fgStage = s.fgStage := rfl
@[simp] theorem bgFrameDone_carrierValue (d : Word) : (bgFrameDone d s).carrierValue = s.carrierValue := rfl
@[simp] theorem bgFrameDone_now (d : Word) : (bgFrameDone d s).now = s.now := rfl
@[simp] theorem bgFrameDone_trace (d : Word) : (bgFrameDone d s).trace = s.trace := rfl
@[simp] theorem bgFrameDone_params (d : Word) : (bgFrameDone d s).params = s.params := rfl
@[simp] theorem bgFrameDone_inputs (d : Word) : (bgFrameDone d s).inputs = s.inputs := rfl
@[simp] theorem bgFrameDone_draws (d : Word) : (bgFrameDone d s).draws = s.draws := rfl
@[simp] theorem bgFrameDone_readLog (d : Word) : (bgFrameDone d s).readLog = s.readLog := rfl

/-! ## The end of a session (R207) -/

@[simp] theorem bgStop_cmdArgReg : (bgStop s).cmdArgReg = s.cmdArgReg := rfl
@[simp] theorem bgStop_cmdOp : (bgStop s).cmdOp = s.cmdOp := rfl
@[simp] theorem bgStop_cmdArg : (bgStop s).cmdArg = s.cmdArg := rfl
@[simp] theorem bgStop_frame : (bgStop s).frame = s.frame := rfl
@[simp] theorem bgStop_rDuration : (bgStop s).rDuration = s.rDuration := rfl
@[simp] theorem bgStop_rCode : (bgStop s).rCode = s.rCode := rfl
@[simp] theorem bgStop_rDecode : (bgStop s).rDecode = s.rDecode := rfl
@[simp] theorem bgStop_seqPhase : (bgStop s).seqPhase = s.seqPhase := rfl
@[simp] theorem bgStop_bitIdx : (bgStop s).bitIdx = s.bitIdx := rfl
@[simp] theorem bgStop_ivlCnt : (bgStop s).ivlCnt = s.ivlCnt := rfl
@[simp] theorem bgStop_durAcc : (bgStop s).durAcc = s.durAcc := rfl
@[simp] theorem bgStop_seqOwner : (bgStop s).seqOwner = s.seqOwner := rfl
@[simp] theorem bgStop_busy : (bgStop s).busy = s.busy := rfl
@[simp] theorem bgStop_ill : (bgStop s).ill = s.ill := rfl
@[simp] theorem bgStop_ovr : (bgStop s).ovr = s.ovr := rfl
@[simp] theorem bgStop_autoRpt : (bgStop s).autoRpt = s.autoRpt := rfl
@[simp] theorem bgStop_duty : (bgStop s).duty = s.duty := rfl
@[simp] theorem bgStop_rptState : (bgStop s).rptState = .idle := rfl
@[simp] theorem bgStop_rptWait : (bgStop s).rptWait = 0 := rfl
@[simp] theorem bgStop_cancelLat : (bgStop s).cancelLat = s.cancelLat := rfl
@[simp] theorem bgStop_fgStage : (bgStop s).fgStage = s.fgStage := rfl
@[simp] theorem bgStop_carrierValue : (bgStop s).carrierValue = s.carrierValue := rfl
@[simp] theorem bgStop_now : (bgStop s).now = s.now := rfl
@[simp] theorem bgStop_trace : (bgStop s).trace = s.trace := rfl
@[simp] theorem bgStop_params : (bgStop s).params = s.params := rfl
@[simp] theorem bgStop_inputs : (bgStop s).inputs = s.inputs := rfl
@[simp] theorem bgStop_draws : (bgStop s).draws = s.draws := rfl
@[simp] theorem bgStop_readLog : (bgStop s).readLog = s.readLog := rfl

/-! ## The write to STATUS (R33) -/

@[simp] theorem clearSticky_cmdArgReg (v : Word) : (clearSticky v s).cmdArgReg = s.cmdArgReg := rfl
@[simp] theorem clearSticky_cmdOp (v : Word) : (clearSticky v s).cmdOp = s.cmdOp := rfl
@[simp] theorem clearSticky_cmdArg (v : Word) : (clearSticky v s).cmdArg = s.cmdArg := rfl
@[simp] theorem clearSticky_frame (v : Word) : (clearSticky v s).frame = s.frame := rfl
@[simp] theorem clearSticky_rDuration (v : Word) : (clearSticky v s).rDuration = s.rDuration := rfl
@[simp] theorem clearSticky_rCode (v : Word) : (clearSticky v s).rCode = s.rCode := rfl
@[simp] theorem clearSticky_rDecode (v : Word) : (clearSticky v s).rDecode = s.rDecode := rfl
@[simp] theorem clearSticky_seqPhase (v : Word) : (clearSticky v s).seqPhase = s.seqPhase := rfl
@[simp] theorem clearSticky_bitIdx (v : Word) : (clearSticky v s).bitIdx = s.bitIdx := rfl
@[simp] theorem clearSticky_ivlCnt (v : Word) : (clearSticky v s).ivlCnt = s.ivlCnt := rfl
@[simp] theorem clearSticky_durAcc (v : Word) : (clearSticky v s).durAcc = s.durAcc := rfl
@[simp] theorem clearSticky_seqOwner (v : Word) : (clearSticky v s).seqOwner = s.seqOwner := rfl
@[simp] theorem clearSticky_busy (v : Word) : (clearSticky v s).busy = s.busy := rfl
@[simp] theorem clearSticky_ill (v : Word) : (clearSticky v s).ill = (s.ill && !v.getLsbD 4) := rfl
@[simp] theorem clearSticky_ovr (v : Word) : (clearSticky v s).ovr = (s.ovr && !v.getLsbD 5) := rfl
@[simp] theorem clearSticky_autoRpt (v : Word) : (clearSticky v s).autoRpt = s.autoRpt := rfl
@[simp] theorem clearSticky_duty (v : Word) : (clearSticky v s).duty = s.duty := rfl
@[simp] theorem clearSticky_rptState (v : Word) : (clearSticky v s).rptState = s.rptState := rfl
@[simp] theorem clearSticky_rptWait (v : Word) : (clearSticky v s).rptWait = s.rptWait := rfl
@[simp] theorem clearSticky_cancelLat (v : Word) : (clearSticky v s).cancelLat = s.cancelLat := rfl
@[simp] theorem clearSticky_fgStage (v : Word) : (clearSticky v s).fgStage = s.fgStage := rfl
@[simp] theorem clearSticky_carrierValue (v : Word) : (clearSticky v s).carrierValue = s.carrierValue := rfl
@[simp] theorem clearSticky_now (v : Word) : (clearSticky v s).now = s.now := rfl
@[simp] theorem clearSticky_trace (v : Word) : (clearSticky v s).trace = s.trace := rfl
@[simp] theorem clearSticky_params (v : Word) : (clearSticky v s).params = s.params := rfl
@[simp] theorem clearSticky_inputs (v : Word) : (clearSticky v s).inputs = s.inputs := rfl
@[simp] theorem clearSticky_draws (v : Word) : (clearSticky v s).draws = s.draws := rfl
@[simp] theorem clearSticky_readLog (v : Word) : (clearSticky v s).readLog = s.readLog := rfl

/-! ## The record of a read (R62) -/

@[simp] theorem recordRead_cmdArgReg (idx : Nat) : (recordRead idx s).cmdArgReg = s.cmdArgReg := rfl
@[simp] theorem recordRead_cmdOp (idx : Nat) : (recordRead idx s).cmdOp = s.cmdOp := rfl
@[simp] theorem recordRead_cmdArg (idx : Nat) : (recordRead idx s).cmdArg = s.cmdArg := rfl
@[simp] theorem recordRead_frame (idx : Nat) : (recordRead idx s).frame = s.frame := rfl
@[simp] theorem recordRead_rDuration (idx : Nat) : (recordRead idx s).rDuration = s.rDuration := rfl
@[simp] theorem recordRead_rCode (idx : Nat) : (recordRead idx s).rCode = s.rCode := rfl
@[simp] theorem recordRead_rDecode (idx : Nat) : (recordRead idx s).rDecode = s.rDecode := rfl
@[simp] theorem recordRead_seqPhase (idx : Nat) : (recordRead idx s).seqPhase = s.seqPhase := rfl
@[simp] theorem recordRead_bitIdx (idx : Nat) : (recordRead idx s).bitIdx = s.bitIdx := rfl
@[simp] theorem recordRead_ivlCnt (idx : Nat) : (recordRead idx s).ivlCnt = s.ivlCnt := rfl
@[simp] theorem recordRead_durAcc (idx : Nat) : (recordRead idx s).durAcc = s.durAcc := rfl
@[simp] theorem recordRead_seqOwner (idx : Nat) : (recordRead idx s).seqOwner = s.seqOwner := rfl
@[simp] theorem recordRead_busy (idx : Nat) : (recordRead idx s).busy = s.busy := rfl
@[simp] theorem recordRead_ill (idx : Nat) : (recordRead idx s).ill = s.ill := rfl
@[simp] theorem recordRead_ovr (idx : Nat) : (recordRead idx s).ovr = s.ovr := rfl
@[simp] theorem recordRead_autoRpt (idx : Nat) : (recordRead idx s).autoRpt = s.autoRpt := rfl
@[simp] theorem recordRead_duty (idx : Nat) : (recordRead idx s).duty = s.duty := rfl
@[simp] theorem recordRead_rptState (idx : Nat) : (recordRead idx s).rptState = s.rptState := rfl
@[simp] theorem recordRead_rptWait (idx : Nat) : (recordRead idx s).rptWait = s.rptWait := rfl
@[simp] theorem recordRead_cancelLat (idx : Nat) : (recordRead idx s).cancelLat = s.cancelLat := rfl
@[simp] theorem recordRead_fgStage (idx : Nat) : (recordRead idx s).fgStage = s.fgStage := rfl
@[simp] theorem recordRead_carrierValue (idx : Nat) : (recordRead idx s).carrierValue = s.carrierValue := rfl
@[simp] theorem recordRead_now (idx : Nat) : (recordRead idx s).now = s.now := rfl
@[simp] theorem recordRead_trace (idx : Nat) : (recordRead idx s).trace = s.trace := rfl
@[simp] theorem recordRead_params (idx : Nat) : (recordRead idx s).params = s.params := rfl
@[simp] theorem recordRead_inputs (idx : Nat) : (recordRead idx s).inputs = s.inputs := rfl
@[simp] theorem recordRead_draws (idx : Nat) : (recordRead idx s).draws = s.draws := rfl
@[simp] theorem recordRead_readLog (idx : Nat) :
    (recordRead idx s).readLog = s.readLog ++ [⟨s.now, idx, hostRead idx s⟩] := rfl


/-! ## The tick (R215) -/

@[simp] theorem tick_cmdArgReg : (tick s).cmdArgReg = s.cmdArgReg := rfl
@[simp] theorem tick_cmdOp : (tick s).cmdOp = s.cmdOp := rfl
@[simp] theorem tick_cmdArg : (tick s).cmdArg = s.cmdArg := rfl
@[simp] theorem tick_frame : (tick s).frame = s.frame := rfl
@[simp] theorem tick_rDuration : (tick s).rDuration = s.rDuration := rfl
@[simp] theorem tick_rCode : (tick s).rCode = s.rCode := rfl
@[simp] theorem tick_rDecode : (tick s).rDecode = s.rDecode := rfl
@[simp] theorem tick_seqPhase : (tick s).seqPhase = s.seqPhase := rfl
@[simp] theorem tick_bitIdx : (tick s).bitIdx = s.bitIdx := rfl
@[simp] theorem tick_ivlCnt :
    (tick s).ivlCnt = if s.seqPhase ≠ .idle then s.ivlCnt - 1 else s.ivlCnt := rfl

@[simp] theorem tick_durAcc : (tick s).durAcc = s.durAcc := rfl
@[simp] theorem tick_seqOwner : (tick s).seqOwner = s.seqOwner := rfl
@[simp] theorem tick_busy : (tick s).busy = s.busy := rfl
@[simp] theorem tick_ill : (tick s).ill = s.ill := rfl
@[simp] theorem tick_ovr : (tick s).ovr = s.ovr := rfl
@[simp] theorem tick_autoRpt : (tick s).autoRpt = s.autoRpt := rfl
@[simp] theorem tick_duty : (tick s).duty = s.duty := rfl
@[simp] theorem tick_rptState : (tick s).rptState = s.rptState := rfl
@[simp] theorem tick_rptWait :
    (tick s).rptWait = if s.rptState = .repeating ∧ s.seqPhase = .idle ∧ s.rptWait ≠ 0 then s.rptWait - 1 else s.rptWait := rfl

@[simp] theorem tick_cancelLat :
    (tick s).cancelLat = if s.rptState = .stopping ∧ bgEmitting s = false ∧ s.cancelLat ≠ 0 then s.cancelLat - 1 else s.cancelLat := rfl

@[simp] theorem tick_fgStage : (tick s).fgStage = s.fgStage := rfl
@[simp] theorem tick_carrierValue : (tick s).carrierValue = s.carrierValue := rfl
@[simp] theorem tick_now : (tick s).now = s.now + 1 := rfl
@[simp] theorem tick_trace : (tick s).trace = s.trace := rfl
@[simp] theorem tick_params : (tick s).params = s.params := rfl
@[simp] theorem tick_inputs : (tick s).inputs = s.inputs := rfl
@[simp] theorem tick_draws : (tick s).draws = s.draws := rfl
@[simp] theorem tick_readLog : (tick s).readLog = s.readLog := rfl

/-! ## The reset input (R46, R280) -/

@[simp] theorem resetBlock_cmdArgReg : (resetBlock s).cmdArgReg = 0 := rfl
@[simp] theorem resetBlock_cmdOp : (resetBlock s).cmdOp = 0 := rfl
@[simp] theorem resetBlock_cmdArg : (resetBlock s).cmdArg = 0 := rfl
@[simp] theorem resetBlock_frame : (resetBlock s).frame = 0 := rfl
@[simp] theorem resetBlock_rDuration : (resetBlock s).rDuration = 0 := rfl
@[simp] theorem resetBlock_rCode : (resetBlock s).rCode = 0 := rfl
@[simp] theorem resetBlock_rDecode : (resetBlock s).rDecode = 0 := rfl
@[simp] theorem resetBlock_seqPhase : (resetBlock s).seqPhase = .idle := rfl
@[simp] theorem resetBlock_bitIdx : (resetBlock s).bitIdx = 0 := rfl
@[simp] theorem resetBlock_ivlCnt : (resetBlock s).ivlCnt = 0 := rfl
@[simp] theorem resetBlock_durAcc : (resetBlock s).durAcc = 0 := rfl
@[simp] theorem resetBlock_seqOwner : (resetBlock s).seqOwner = .fg := rfl
@[simp] theorem resetBlock_busy : (resetBlock s).busy = false := rfl
@[simp] theorem resetBlock_ill : (resetBlock s).ill = false := rfl
@[simp] theorem resetBlock_ovr : (resetBlock s).ovr = false := rfl
@[simp] theorem resetBlock_autoRpt : (resetBlock s).autoRpt = false := rfl
@[simp] theorem resetBlock_duty : (resetBlock s).duty = 33 := rfl
@[simp] theorem resetBlock_rptState : (resetBlock s).rptState = .idle := rfl
@[simp] theorem resetBlock_rptWait : (resetBlock s).rptWait = 0 := rfl
@[simp] theorem resetBlock_cancelLat : (resetBlock s).cancelLat = 0 := rfl
@[simp] theorem resetBlock_fgStage : (resetBlock s).fgStage = .idle := rfl
@[simp] theorem resetBlock_carrierValue : (resetBlock s).carrierValue = 0 := rfl
@[simp] theorem resetBlock_now : (resetBlock s).now = 0 := rfl
@[simp] theorem resetBlock_trace : (resetBlock s).trace = [] := rfl
@[simp] theorem resetBlock_params : (resetBlock s).params = s.params := rfl
@[simp] theorem resetBlock_inputs : (resetBlock s).inputs = s.inputs := rfl
@[simp] theorem resetBlock_draws : (resetBlock s).draws = s.draws := rfl
@[simp] theorem resetBlock_readLog : (resetBlock s).readLog = [] := rfl

/-! ## The placed command -/

@[simp] theorem placeCommand_cmdArgReg (w : CmdWord) : (placeCommand w s).cmdArgReg = argField w := rfl
@[simp] theorem placeCommand_cmdOp (w : CmdWord) : (placeCommand w s).cmdOp = s.cmdOp := rfl
@[simp] theorem placeCommand_cmdArg (w : CmdWord) : (placeCommand w s).cmdArg = s.cmdArg := rfl
@[simp] theorem placeCommand_frame (w : CmdWord) : (placeCommand w s).frame = s.frame := rfl
@[simp] theorem placeCommand_rDuration (w : CmdWord) : (placeCommand w s).rDuration = s.rDuration := rfl
@[simp] theorem placeCommand_rCode (w : CmdWord) : (placeCommand w s).rCode = s.rCode := rfl
@[simp] theorem placeCommand_rDecode (w : CmdWord) : (placeCommand w s).rDecode = s.rDecode := rfl
@[simp] theorem placeCommand_seqPhase (w : CmdWord) : (placeCommand w s).seqPhase = s.seqPhase := rfl
@[simp] theorem placeCommand_bitIdx (w : CmdWord) : (placeCommand w s).bitIdx = s.bitIdx := rfl
@[simp] theorem placeCommand_ivlCnt (w : CmdWord) : (placeCommand w s).ivlCnt = s.ivlCnt := rfl
@[simp] theorem placeCommand_durAcc (w : CmdWord) : (placeCommand w s).durAcc = s.durAcc := rfl
@[simp] theorem placeCommand_seqOwner (w : CmdWord) : (placeCommand w s).seqOwner = s.seqOwner := rfl
@[simp] theorem placeCommand_busy (w : CmdWord) : (placeCommand w s).busy = s.busy := rfl
@[simp] theorem placeCommand_ill (w : CmdWord) : (placeCommand w s).ill = s.ill := rfl
@[simp] theorem placeCommand_ovr (w : CmdWord) : (placeCommand w s).ovr = s.ovr := rfl
@[simp] theorem placeCommand_autoRpt (w : CmdWord) : (placeCommand w s).autoRpt = s.autoRpt := rfl
@[simp] theorem placeCommand_duty (w : CmdWord) : (placeCommand w s).duty = s.duty := rfl
@[simp] theorem placeCommand_rptState (w : CmdWord) : (placeCommand w s).rptState = s.rptState := rfl
@[simp] theorem placeCommand_rptWait (w : CmdWord) : (placeCommand w s).rptWait = s.rptWait := rfl
@[simp] theorem placeCommand_cancelLat (w : CmdWord) : (placeCommand w s).cancelLat = s.cancelLat := rfl
@[simp] theorem placeCommand_fgStage (w : CmdWord) : (placeCommand w s).fgStage = s.fgStage := rfl
@[simp] theorem placeCommand_carrierValue (w : CmdWord) : (placeCommand w s).carrierValue = s.carrierValue := rfl
@[simp] theorem placeCommand_now (w : CmdWord) : (placeCommand w s).now = s.now := rfl
@[simp] theorem placeCommand_trace (w : CmdWord) : (placeCommand w s).trace = s.trace := rfl
@[simp] theorem placeCommand_params (w : CmdWord) : (placeCommand w s).params = s.params := rfl
@[simp] theorem placeCommand_inputs (w : CmdWord) :
    (placeCommand w s).inputs = ⟨0, .write 1 ((opField w).setWidth 32)⟩ :: s.inputs := rfl

@[simp] theorem placeCommand_draws (w : CmdWord) : (placeCommand w s).draws = s.draws := rfl
@[simp] theorem placeCommand_readLog (w : CmdWord) : (placeCommand w s).readLog = s.readLog := rfl

/-! ## Raising a condition leaves all but its flag (R244, R245) -/

@[simp] theorem raise_cmdArgReg (c : Condition) : (raise c s).cmdArgReg = s.cmdArgReg := by
  cases c <;> rfl
@[simp] theorem raise_cmdOp (c : Condition) : (raise c s).cmdOp = s.cmdOp := by
  cases c <;> rfl
@[simp] theorem raise_cmdArg (c : Condition) : (raise c s).cmdArg = s.cmdArg := by
  cases c <;> rfl
@[simp] theorem raise_frame (c : Condition) : (raise c s).frame = s.frame := by
  cases c <;> rfl
@[simp] theorem raise_rDuration (c : Condition) : (raise c s).rDuration = s.rDuration := by
  cases c <;> rfl
@[simp] theorem raise_rCode (c : Condition) : (raise c s).rCode = s.rCode := by
  cases c <;> rfl
@[simp] theorem raise_rDecode (c : Condition) : (raise c s).rDecode = s.rDecode := by
  cases c <;> rfl
@[simp] theorem raise_seqPhase (c : Condition) : (raise c s).seqPhase = s.seqPhase := by
  cases c <;> rfl
@[simp] theorem raise_bitIdx (c : Condition) : (raise c s).bitIdx = s.bitIdx := by
  cases c <;> rfl
@[simp] theorem raise_ivlCnt (c : Condition) : (raise c s).ivlCnt = s.ivlCnt := by
  cases c <;> rfl
@[simp] theorem raise_durAcc (c : Condition) : (raise c s).durAcc = s.durAcc := by
  cases c <;> rfl
@[simp] theorem raise_seqOwner (c : Condition) : (raise c s).seqOwner = s.seqOwner := by
  cases c <;> rfl
@[simp] theorem raise_busy (c : Condition) : (raise c s).busy = s.busy := by
  cases c <;> rfl
@[simp] theorem raise_autoRpt (c : Condition) : (raise c s).autoRpt = s.autoRpt := by
  cases c <;> rfl
@[simp] theorem raise_duty (c : Condition) : (raise c s).duty = s.duty := by
  cases c <;> rfl
@[simp] theorem raise_rptState (c : Condition) : (raise c s).rptState = s.rptState := by
  cases c <;> rfl
@[simp] theorem raise_rptWait (c : Condition) : (raise c s).rptWait = s.rptWait := by
  cases c <;> rfl
@[simp] theorem raise_cancelLat (c : Condition) : (raise c s).cancelLat = s.cancelLat := by
  cases c <;> rfl
@[simp] theorem raise_fgStage (c : Condition) : (raise c s).fgStage = s.fgStage := by
  cases c <;> rfl
@[simp] theorem raise_carrierValue (c : Condition) : (raise c s).carrierValue = s.carrierValue := by
  cases c <;> rfl
@[simp] theorem raise_now (c : Condition) : (raise c s).now = s.now := by
  cases c <;> rfl
@[simp] theorem raise_trace (c : Condition) : (raise c s).trace = s.trace := by
  cases c <;> rfl
@[simp] theorem raise_params (c : Condition) : (raise c s).params = s.params := by
  cases c <;> rfl
@[simp] theorem raise_inputs (c : Condition) : (raise c s).inputs = s.inputs := by
  cases c <;> rfl
@[simp] theorem raise_draws (c : Condition) : (raise c s).draws = s.draws := by
  cases c <;> rfl
@[simp] theorem raise_readLog (c : Condition) : (raise c s).readLog = s.readLog := by
  cases c <;> rfl

/-! ## The carrier of a phase leaves all but the output -/

@[simp] theorem carrierIfMark_cmdArgReg (ph : Phase) (v : Nat) : (carrierIfMark ph v s).cmdArgReg = s.cmdArgReg := by
  unfold carrierIfMark; split <;> rfl
@[simp] theorem carrierIfMark_cmdOp (ph : Phase) (v : Nat) : (carrierIfMark ph v s).cmdOp = s.cmdOp := by
  unfold carrierIfMark; split <;> rfl
@[simp] theorem carrierIfMark_cmdArg (ph : Phase) (v : Nat) : (carrierIfMark ph v s).cmdArg = s.cmdArg := by
  unfold carrierIfMark; split <;> rfl
@[simp] theorem carrierIfMark_frame (ph : Phase) (v : Nat) : (carrierIfMark ph v s).frame = s.frame := by
  unfold carrierIfMark; split <;> rfl
@[simp] theorem carrierIfMark_rDuration (ph : Phase) (v : Nat) : (carrierIfMark ph v s).rDuration = s.rDuration := by
  unfold carrierIfMark; split <;> rfl
@[simp] theorem carrierIfMark_rCode (ph : Phase) (v : Nat) : (carrierIfMark ph v s).rCode = s.rCode := by
  unfold carrierIfMark; split <;> rfl
@[simp] theorem carrierIfMark_rDecode (ph : Phase) (v : Nat) : (carrierIfMark ph v s).rDecode = s.rDecode := by
  unfold carrierIfMark; split <;> rfl
@[simp] theorem carrierIfMark_seqPhase (ph : Phase) (v : Nat) : (carrierIfMark ph v s).seqPhase = s.seqPhase := by
  unfold carrierIfMark; split <;> rfl
@[simp] theorem carrierIfMark_bitIdx (ph : Phase) (v : Nat) : (carrierIfMark ph v s).bitIdx = s.bitIdx := by
  unfold carrierIfMark; split <;> rfl
@[simp] theorem carrierIfMark_ivlCnt (ph : Phase) (v : Nat) : (carrierIfMark ph v s).ivlCnt = s.ivlCnt := by
  unfold carrierIfMark; split <;> rfl
@[simp] theorem carrierIfMark_durAcc (ph : Phase) (v : Nat) : (carrierIfMark ph v s).durAcc = s.durAcc := by
  unfold carrierIfMark; split <;> rfl
@[simp] theorem carrierIfMark_seqOwner (ph : Phase) (v : Nat) : (carrierIfMark ph v s).seqOwner = s.seqOwner := by
  unfold carrierIfMark; split <;> rfl
@[simp] theorem carrierIfMark_busy (ph : Phase) (v : Nat) : (carrierIfMark ph v s).busy = s.busy := by
  unfold carrierIfMark; split <;> rfl
@[simp] theorem carrierIfMark_ill (ph : Phase) (v : Nat) : (carrierIfMark ph v s).ill = s.ill := by
  unfold carrierIfMark; split <;> rfl
@[simp] theorem carrierIfMark_ovr (ph : Phase) (v : Nat) : (carrierIfMark ph v s).ovr = s.ovr := by
  unfold carrierIfMark; split <;> rfl
@[simp] theorem carrierIfMark_autoRpt (ph : Phase) (v : Nat) : (carrierIfMark ph v s).autoRpt = s.autoRpt := by
  unfold carrierIfMark; split <;> rfl
@[simp] theorem carrierIfMark_duty (ph : Phase) (v : Nat) : (carrierIfMark ph v s).duty = s.duty := by
  unfold carrierIfMark; split <;> rfl
@[simp] theorem carrierIfMark_rptState (ph : Phase) (v : Nat) : (carrierIfMark ph v s).rptState = s.rptState := by
  unfold carrierIfMark; split <;> rfl
@[simp] theorem carrierIfMark_rptWait (ph : Phase) (v : Nat) : (carrierIfMark ph v s).rptWait = s.rptWait := by
  unfold carrierIfMark; split <;> rfl
@[simp] theorem carrierIfMark_cancelLat (ph : Phase) (v : Nat) : (carrierIfMark ph v s).cancelLat = s.cancelLat := by
  unfold carrierIfMark; split <;> rfl
@[simp] theorem carrierIfMark_fgStage (ph : Phase) (v : Nat) : (carrierIfMark ph v s).fgStage = s.fgStage := by
  unfold carrierIfMark; split <;> rfl
@[simp] theorem carrierIfMark_now (ph : Phase) (v : Nat) : (carrierIfMark ph v s).now = s.now := by
  unfold carrierIfMark; split <;> rfl
@[simp] theorem carrierIfMark_params (ph : Phase) (v : Nat) : (carrierIfMark ph v s).params = s.params := by
  unfold carrierIfMark; split <;> rfl
@[simp] theorem carrierIfMark_inputs (ph : Phase) (v : Nat) : (carrierIfMark ph v s).inputs = s.inputs := by
  unfold carrierIfMark; split <;> rfl
@[simp] theorem carrierIfMark_draws (ph : Phase) (v : Nat) : (carrierIfMark ph v s).draws = s.draws := by
  unfold carrierIfMark; split <;> rfl
@[simp] theorem carrierIfMark_readLog (ph : Phase) (v : Nat) : (carrierIfMark ph v s).readLog = s.readLog := by
  unfold carrierIfMark; split <;> rfl

/-! ## Entering an interval (R153) -/

@[simp] theorem enter_cmdArgReg (ph : Phase) (i : BitVec 5) : (enter ph i s).cmdArgReg = s.cmdArgReg := by
  simp [enter]
@[simp] theorem enter_cmdOp (ph : Phase) (i : BitVec 5) : (enter ph i s).cmdOp = s.cmdOp := by
  simp [enter]
@[simp] theorem enter_cmdArg (ph : Phase) (i : BitVec 5) : (enter ph i s).cmdArg = s.cmdArg := by
  simp [enter]
@[simp] theorem enter_frame (ph : Phase) (i : BitVec 5) : (enter ph i s).frame = s.frame := by
  simp [enter]
@[simp] theorem enter_rDuration (ph : Phase) (i : BitVec 5) : (enter ph i s).rDuration = s.rDuration := by
  simp [enter]
@[simp] theorem enter_rCode (ph : Phase) (i : BitVec 5) : (enter ph i s).rCode = s.rCode := by
  simp [enter]
@[simp] theorem enter_rDecode (ph : Phase) (i : BitVec 5) : (enter ph i s).rDecode = s.rDecode := by
  simp [enter]
@[simp] theorem enter_seqPhase (ph : Phase) (i : BitVec 5) : (enter ph i s).seqPhase = ph := by
  simp [enter]
@[simp] theorem enter_bitIdx (ph : Phase) (i : BitVec 5) : (enter ph i s).bitIdx = i := by
  simp [enter]
@[simp] theorem enter_ivlCnt (ph : Phase) (i : BitVec 5) : (enter ph i s).ivlCnt = toWord (dur s.params ph i s.frame) := by
  simp [enter]
@[simp] theorem enter_durAcc (ph : Phase) (i : BitVec 5) : (enter ph i s).durAcc = s.durAcc + toWord (dur s.params ph i s.frame) := by
  simp [enter]
@[simp] theorem enter_seqOwner (ph : Phase) (i : BitVec 5) : (enter ph i s).seqOwner = s.seqOwner := by
  simp [enter]
@[simp] theorem enter_busy (ph : Phase) (i : BitVec 5) : (enter ph i s).busy = s.busy := by
  simp [enter]
@[simp] theorem enter_ill (ph : Phase) (i : BitVec 5) : (enter ph i s).ill = s.ill := by
  simp [enter]
@[simp] theorem enter_ovr (ph : Phase) (i : BitVec 5) : (enter ph i s).ovr = s.ovr := by
  simp [enter]
@[simp] theorem enter_autoRpt (ph : Phase) (i : BitVec 5) : (enter ph i s).autoRpt = s.autoRpt := by
  simp [enter]
@[simp] theorem enter_duty (ph : Phase) (i : BitVec 5) : (enter ph i s).duty = s.duty := by
  simp [enter]
@[simp] theorem enter_rptState (ph : Phase) (i : BitVec 5) : (enter ph i s).rptState = s.rptState := by
  simp [enter]
@[simp] theorem enter_rptWait (ph : Phase) (i : BitVec 5) : (enter ph i s).rptWait = s.rptWait := by
  simp [enter]
@[simp] theorem enter_cancelLat (ph : Phase) (i : BitVec 5) : (enter ph i s).cancelLat = s.cancelLat := by
  simp [enter]
@[simp] theorem enter_fgStage (ph : Phase) (i : BitVec 5) : (enter ph i s).fgStage = s.fgStage := by
  simp [enter]
@[simp] theorem enter_now (ph : Phase) (i : BitVec 5) : (enter ph i s).now = s.now := by
  simp [enter]
@[simp] theorem enter_params (ph : Phase) (i : BitVec 5) : (enter ph i s).params = s.params := by
  simp [enter]
@[simp] theorem enter_inputs (ph : Phase) (i : BitVec 5) : (enter ph i s).inputs = s.inputs := by
  simp [enter]
@[simp] theorem enter_draws (ph : Phase) (i : BitVec 5) : (enter ph i s).draws = s.draws := by
  simp [enter]
@[simp] theorem enter_readLog (ph : Phase) (i : BitVec 5) : (enter ph i s).readLog = s.readLog := by
  simp [enter]

/-! ## Starting a frame (R153) -/

@[simp] theorem startFrame_cmdArgReg (o : Owner) (k : FrameKind) : (startFrame o k s).cmdArgReg = s.cmdArgReg := by
  simp [startFrame]
@[simp] theorem startFrame_cmdOp (o : Owner) (k : FrameKind) : (startFrame o k s).cmdOp = s.cmdOp := by
  simp [startFrame]
@[simp] theorem startFrame_cmdArg (o : Owner) (k : FrameKind) : (startFrame o k s).cmdArg = s.cmdArg := by
  simp [startFrame]
@[simp] theorem startFrame_frame (o : Owner) (k : FrameKind) : (startFrame o k s).frame = s.frame := by
  simp [startFrame]
@[simp] theorem startFrame_rDuration (o : Owner) (k : FrameKind) : (startFrame o k s).rDuration = s.rDuration := by
  simp [startFrame]
@[simp] theorem startFrame_rCode (o : Owner) (k : FrameKind) : (startFrame o k s).rCode = s.rCode := by
  simp [startFrame]
@[simp] theorem startFrame_rDecode (o : Owner) (k : FrameKind) : (startFrame o k s).rDecode = s.rDecode := by
  simp [startFrame]
@[simp] theorem startFrame_seqPhase (o : Owner) (k : FrameKind) : (startFrame o k s).seqPhase = firstPhase k := by
  simp [startFrame]
@[simp] theorem startFrame_bitIdx (o : Owner) (k : FrameKind) : (startFrame o k s).bitIdx = 0 := by
  simp [startFrame]
@[simp] theorem startFrame_ivlCnt (o : Owner) (k : FrameKind) : (startFrame o k s).ivlCnt = toWord (dur s.params (firstPhase k) 0 s.frame) := by
  simp [startFrame]
@[simp] theorem startFrame_durAcc (o : Owner) (k : FrameKind) : (startFrame o k s).durAcc = toWord (dur s.params (firstPhase k) 0 s.frame) := by
  simp [startFrame]
@[simp] theorem startFrame_seqOwner (o : Owner) (k : FrameKind) : (startFrame o k s).seqOwner = o := by
  simp [startFrame]
@[simp] theorem startFrame_busy (o : Owner) (k : FrameKind) : (startFrame o k s).busy = s.busy := by
  simp [startFrame]
@[simp] theorem startFrame_ill (o : Owner) (k : FrameKind) : (startFrame o k s).ill = s.ill := by
  simp [startFrame]
@[simp] theorem startFrame_ovr (o : Owner) (k : FrameKind) : (startFrame o k s).ovr = s.ovr := by
  simp [startFrame]
@[simp] theorem startFrame_autoRpt (o : Owner) (k : FrameKind) : (startFrame o k s).autoRpt = s.autoRpt := by
  simp [startFrame]
@[simp] theorem startFrame_duty (o : Owner) (k : FrameKind) : (startFrame o k s).duty = s.duty := by
  simp [startFrame]
@[simp] theorem startFrame_rptState (o : Owner) (k : FrameKind) : (startFrame o k s).rptState = s.rptState := by
  simp [startFrame]
@[simp] theorem startFrame_rptWait (o : Owner) (k : FrameKind) : (startFrame o k s).rptWait = s.rptWait := by
  simp [startFrame]
@[simp] theorem startFrame_cancelLat (o : Owner) (k : FrameKind) : (startFrame o k s).cancelLat = s.cancelLat := by
  simp [startFrame]
@[simp] theorem startFrame_fgStage (o : Owner) (k : FrameKind) : (startFrame o k s).fgStage = s.fgStage := by
  simp [startFrame]
@[simp] theorem startFrame_now (o : Owner) (k : FrameKind) : (startFrame o k s).now = s.now := by
  simp [startFrame]
@[simp] theorem startFrame_params (o : Owner) (k : FrameKind) : (startFrame o k s).params = s.params := by
  simp [startFrame]
@[simp] theorem startFrame_inputs (o : Owner) (k : FrameKind) : (startFrame o k s).inputs = s.inputs := by
  simp [startFrame]
@[simp] theorem startFrame_draws (o : Owner) (k : FrameKind) : (startFrame o k s).draws = s.draws := by
  simp [startFrame]
@[simp] theorem startFrame_readLog (o : Owner) (k : FrameKind) : (startFrame o k s).readLog = s.readLog := by
  simp [startFrame]

/-! ## The cancellation request leaves all but the coordinator (R205) -/

@[simp] theorem requestCancel_cmdArgReg : (requestCancel s).cmdArgReg = s.cmdArgReg := by
  unfold requestCancel; split <;> rfl
@[simp] theorem requestCancel_cmdOp : (requestCancel s).cmdOp = s.cmdOp := by
  unfold requestCancel; split <;> rfl
@[simp] theorem requestCancel_cmdArg : (requestCancel s).cmdArg = s.cmdArg := by
  unfold requestCancel; split <;> rfl
@[simp] theorem requestCancel_frame : (requestCancel s).frame = s.frame := by
  unfold requestCancel; split <;> rfl
@[simp] theorem requestCancel_rDuration : (requestCancel s).rDuration = s.rDuration := by
  unfold requestCancel; split <;> rfl
@[simp] theorem requestCancel_rCode : (requestCancel s).rCode = s.rCode := by
  unfold requestCancel; split <;> rfl
@[simp] theorem requestCancel_rDecode : (requestCancel s).rDecode = s.rDecode := by
  unfold requestCancel; split <;> rfl
@[simp] theorem requestCancel_seqPhase : (requestCancel s).seqPhase = s.seqPhase := by
  unfold requestCancel; split <;> rfl
@[simp] theorem requestCancel_bitIdx : (requestCancel s).bitIdx = s.bitIdx := by
  unfold requestCancel; split <;> rfl
@[simp] theorem requestCancel_ivlCnt : (requestCancel s).ivlCnt = s.ivlCnt := by
  unfold requestCancel; split <;> rfl
@[simp] theorem requestCancel_durAcc : (requestCancel s).durAcc = s.durAcc := by
  unfold requestCancel; split <;> rfl
@[simp] theorem requestCancel_seqOwner : (requestCancel s).seqOwner = s.seqOwner := by
  unfold requestCancel; split <;> rfl
@[simp] theorem requestCancel_busy : (requestCancel s).busy = s.busy := by
  unfold requestCancel; split <;> rfl
@[simp] theorem requestCancel_ill : (requestCancel s).ill = s.ill := by
  unfold requestCancel; split <;> rfl
@[simp] theorem requestCancel_ovr : (requestCancel s).ovr = s.ovr := by
  unfold requestCancel; split <;> rfl
@[simp] theorem requestCancel_autoRpt : (requestCancel s).autoRpt = s.autoRpt := by
  unfold requestCancel; split <;> rfl
@[simp] theorem requestCancel_duty : (requestCancel s).duty = s.duty := by
  unfold requestCancel; split <;> rfl
@[simp] theorem requestCancel_rptWait : (requestCancel s).rptWait = s.rptWait := by
  unfold requestCancel; split <;> rfl
@[simp] theorem requestCancel_fgStage : (requestCancel s).fgStage = s.fgStage := by
  unfold requestCancel; split <;> rfl
@[simp] theorem requestCancel_carrierValue : (requestCancel s).carrierValue = s.carrierValue := by
  unfold requestCancel; split <;> rfl
@[simp] theorem requestCancel_now : (requestCancel s).now = s.now := by
  unfold requestCancel; split <;> rfl
@[simp] theorem requestCancel_trace : (requestCancel s).trace = s.trace := by
  unfold requestCancel; split <;> rfl
@[simp] theorem requestCancel_params : (requestCancel s).params = s.params := by
  unfold requestCancel; split <;> rfl
@[simp] theorem requestCancel_inputs : (requestCancel s).inputs = s.inputs := by
  unfold requestCancel; split <;> rfl
@[simp] theorem requestCancel_readLog : (requestCancel s).readLog = s.readLog := by
  unfold requestCancel; split <;> rfl

/-! ## The join (R210) -/

@[simp] theorem beginJoin_cmdArgReg : (beginJoin s).cmdArgReg = s.cmdArgReg := by
  simp [beginJoin]
@[simp] theorem beginJoin_cmdOp : (beginJoin s).cmdOp = s.cmdOp := by
  simp [beginJoin]
@[simp] theorem beginJoin_cmdArg : (beginJoin s).cmdArg = s.cmdArg := by
  simp [beginJoin]
@[simp] theorem beginJoin_frame : (beginJoin s).frame = s.frame := by
  simp [beginJoin]
@[simp] theorem beginJoin_rDuration : (beginJoin s).rDuration = s.rDuration := by
  simp [beginJoin]
@[simp] theorem beginJoin_rCode : (beginJoin s).rCode = s.rCode := by
  simp [beginJoin]
@[simp] theorem beginJoin_rDecode : (beginJoin s).rDecode = s.rDecode := by
  simp [beginJoin]
@[simp] theorem beginJoin_seqPhase : (beginJoin s).seqPhase = s.seqPhase := by
  simp [beginJoin]
@[simp] theorem beginJoin_bitIdx : (beginJoin s).bitIdx = s.bitIdx := by
  simp [beginJoin]
@[simp] theorem beginJoin_ivlCnt : (beginJoin s).ivlCnt = s.ivlCnt := by
  simp [beginJoin]
@[simp] theorem beginJoin_durAcc : (beginJoin s).durAcc = s.durAcc := by
  simp [beginJoin]
@[simp] theorem beginJoin_seqOwner : (beginJoin s).seqOwner = s.seqOwner := by
  simp [beginJoin]
@[simp] theorem beginJoin_busy : (beginJoin s).busy = true := by
  simp [beginJoin]
@[simp] theorem beginJoin_ill : (beginJoin s).ill = s.ill := by
  simp [beginJoin]
@[simp] theorem beginJoin_ovr : (beginJoin s).ovr = s.ovr := by
  simp [beginJoin]
@[simp] theorem beginJoin_autoRpt : (beginJoin s).autoRpt = s.autoRpt := by
  simp [beginJoin]
@[simp] theorem beginJoin_duty : (beginJoin s).duty = s.duty := by
  simp [beginJoin]
@[simp] theorem beginJoin_rptWait : (beginJoin s).rptWait = s.rptWait := by
  simp [beginJoin]
@[simp] theorem beginJoin_fgStage : (beginJoin s).fgStage = .join := by
  simp [beginJoin]
@[simp] theorem beginJoin_carrierValue : (beginJoin s).carrierValue = s.carrierValue := by
  simp [beginJoin]
@[simp] theorem beginJoin_now : (beginJoin s).now = s.now := by
  simp [beginJoin]
@[simp] theorem beginJoin_trace : (beginJoin s).trace = s.trace := by
  simp [beginJoin]
@[simp] theorem beginJoin_params : (beginJoin s).params = s.params := by
  simp [beginJoin]
@[simp] theorem beginJoin_inputs : (beginJoin s).inputs = s.inputs := by
  simp [beginJoin]
@[simp] theorem beginJoin_readLog : (beginJoin s).readLog = s.readLog := by
  simp [beginJoin]

/-! ## The session of a SEND (R183) -/

@[simp] theorem startSessionIfAuto_cmdArgReg (d : Word) : (startSessionIfAuto d s).cmdArgReg = s.cmdArgReg := by
  unfold startSessionIfAuto; split <;> rfl
@[simp] theorem startSessionIfAuto_cmdOp (d : Word) : (startSessionIfAuto d s).cmdOp = s.cmdOp := by
  unfold startSessionIfAuto; split <;> rfl
@[simp] theorem startSessionIfAuto_cmdArg (d : Word) : (startSessionIfAuto d s).cmdArg = s.cmdArg := by
  unfold startSessionIfAuto; split <;> rfl
@[simp] theorem startSessionIfAuto_frame (d : Word) : (startSessionIfAuto d s).frame = s.frame := by
  unfold startSessionIfAuto; split <;> rfl
@[simp] theorem startSessionIfAuto_rDuration (d : Word) : (startSessionIfAuto d s).rDuration = s.rDuration := by
  unfold startSessionIfAuto; split <;> rfl
@[simp] theorem startSessionIfAuto_rCode (d : Word) : (startSessionIfAuto d s).rCode = s.rCode := by
  unfold startSessionIfAuto; split <;> rfl
@[simp] theorem startSessionIfAuto_rDecode (d : Word) : (startSessionIfAuto d s).rDecode = s.rDecode := by
  unfold startSessionIfAuto; split <;> rfl
@[simp] theorem startSessionIfAuto_seqPhase (d : Word) : (startSessionIfAuto d s).seqPhase = s.seqPhase := by
  unfold startSessionIfAuto; split <;> rfl
@[simp] theorem startSessionIfAuto_bitIdx (d : Word) : (startSessionIfAuto d s).bitIdx = s.bitIdx := by
  unfold startSessionIfAuto; split <;> rfl
@[simp] theorem startSessionIfAuto_ivlCnt (d : Word) : (startSessionIfAuto d s).ivlCnt = s.ivlCnt := by
  unfold startSessionIfAuto; split <;> rfl
@[simp] theorem startSessionIfAuto_durAcc (d : Word) : (startSessionIfAuto d s).durAcc = s.durAcc := by
  unfold startSessionIfAuto; split <;> rfl
@[simp] theorem startSessionIfAuto_seqOwner (d : Word) : (startSessionIfAuto d s).seqOwner = s.seqOwner := by
  unfold startSessionIfAuto; split <;> rfl
@[simp] theorem startSessionIfAuto_busy (d : Word) : (startSessionIfAuto d s).busy = s.busy := by
  unfold startSessionIfAuto; split <;> rfl
@[simp] theorem startSessionIfAuto_ill (d : Word) : (startSessionIfAuto d s).ill = s.ill := by
  unfold startSessionIfAuto; split <;> rfl
@[simp] theorem startSessionIfAuto_ovr (d : Word) : (startSessionIfAuto d s).ovr = s.ovr := by
  unfold startSessionIfAuto; split <;> rfl
@[simp] theorem startSessionIfAuto_autoRpt (d : Word) : (startSessionIfAuto d s).autoRpt = s.autoRpt := by
  unfold startSessionIfAuto; split <;> rfl
@[simp] theorem startSessionIfAuto_duty (d : Word) : (startSessionIfAuto d s).duty = s.duty := by
  unfold startSessionIfAuto; split <;> rfl
@[simp] theorem startSessionIfAuto_cancelLat (d : Word) : (startSessionIfAuto d s).cancelLat = s.cancelLat := by
  unfold startSessionIfAuto; split <;> rfl
@[simp] theorem startSessionIfAuto_fgStage (d : Word) : (startSessionIfAuto d s).fgStage = s.fgStage := by
  unfold startSessionIfAuto; split <;> rfl
@[simp] theorem startSessionIfAuto_carrierValue (d : Word) : (startSessionIfAuto d s).carrierValue = s.carrierValue := by
  unfold startSessionIfAuto; split <;> rfl
@[simp] theorem startSessionIfAuto_now (d : Word) : (startSessionIfAuto d s).now = s.now := by
  unfold startSessionIfAuto; split <;> rfl
@[simp] theorem startSessionIfAuto_trace (d : Word) : (startSessionIfAuto d s).trace = s.trace := by
  unfold startSessionIfAuto; split <;> rfl
@[simp] theorem startSessionIfAuto_params (d : Word) : (startSessionIfAuto d s).params = s.params := by
  unfold startSessionIfAuto; split <;> rfl
@[simp] theorem startSessionIfAuto_inputs (d : Word) : (startSessionIfAuto d s).inputs = s.inputs := by
  unfold startSessionIfAuto; split <;> rfl
@[simp] theorem startSessionIfAuto_draws (d : Word) : (startSessionIfAuto d s).draws = s.draws := by
  unfold startSessionIfAuto; split <;> rfl
@[simp] theorem startSessionIfAuto_readLog (d : Word) : (startSessionIfAuto d s).readLog = s.readLog := by
  unfold startSessionIfAuto; split <;> rfl

/-! ## Completion (R213) -/

@[simp] theorem fgComplete_cmdArgReg (d : Word) : (fgComplete d s).cmdArgReg = s.cmdArgReg := by
  simp [fgComplete]
@[simp] theorem fgComplete_cmdOp (d : Word) : (fgComplete d s).cmdOp = s.cmdOp := by
  simp [fgComplete]
@[simp] theorem fgComplete_cmdArg (d : Word) : (fgComplete d s).cmdArg = s.cmdArg := by
  simp [fgComplete]
@[simp] theorem fgComplete_frame (d : Word) : (fgComplete d s).frame = s.frame := by
  simp [fgComplete]
@[simp] theorem fgComplete_rDuration (d : Word) : (fgComplete d s).rDuration = d := by
  simp [fgComplete]
@[simp] theorem fgComplete_rCode (d : Word) : (fgComplete d s).rCode = s.rCode := by
  simp [fgComplete]
@[simp] theorem fgComplete_rDecode (d : Word) : (fgComplete d s).rDecode = s.rDecode := by
  simp [fgComplete]
@[simp] theorem fgComplete_seqPhase (d : Word) : (fgComplete d s).seqPhase = s.seqPhase := by
  simp [fgComplete]
@[simp] theorem fgComplete_bitIdx (d : Word) : (fgComplete d s).bitIdx = s.bitIdx := by
  simp [fgComplete]
@[simp] theorem fgComplete_ivlCnt (d : Word) : (fgComplete d s).ivlCnt = s.ivlCnt := by
  simp [fgComplete]
@[simp] theorem fgComplete_durAcc (d : Word) : (fgComplete d s).durAcc = s.durAcc := by
  simp [fgComplete]
@[simp] theorem fgComplete_seqOwner (d : Word) : (fgComplete d s).seqOwner = s.seqOwner := by
  simp [fgComplete]
@[simp] theorem fgComplete_busy (d : Word) : (fgComplete d s).busy = false := by
  simp [fgComplete]
@[simp] theorem fgComplete_ill (d : Word) : (fgComplete d s).ill = s.ill := by
  simp [fgComplete]
@[simp] theorem fgComplete_ovr (d : Word) : (fgComplete d s).ovr = s.ovr := by
  simp [fgComplete]
@[simp] theorem fgComplete_autoRpt (d : Word) : (fgComplete d s).autoRpt = s.autoRpt := by
  simp [fgComplete]
@[simp] theorem fgComplete_duty (d : Word) : (fgComplete d s).duty = s.duty := by
  simp [fgComplete]
@[simp] theorem fgComplete_cancelLat (d : Word) : (fgComplete d s).cancelLat = s.cancelLat := by
  simp [fgComplete]
@[simp] theorem fgComplete_fgStage (d : Word) : (fgComplete d s).fgStage = .idle := by
  simp [fgComplete]
@[simp] theorem fgComplete_carrierValue (d : Word) : (fgComplete d s).carrierValue = s.carrierValue := by
  simp [fgComplete]
@[simp] theorem fgComplete_now (d : Word) : (fgComplete d s).now = s.now := by
  simp [fgComplete]
@[simp] theorem fgComplete_trace (d : Word) : (fgComplete d s).trace = s.trace := by
  simp [fgComplete]
@[simp] theorem fgComplete_params (d : Word) : (fgComplete d s).params = s.params := by
  simp [fgComplete]
@[simp] theorem fgComplete_inputs (d : Word) : (fgComplete d s).inputs = s.inputs := by
  simp [fgComplete]
@[simp] theorem fgComplete_draws (d : Word) : (fgComplete d s).draws = s.draws := by
  simp [fgComplete]
@[simp] theorem fgComplete_readLog (d : Word) : (fgComplete d s).readLog = s.readLog := by
  simp [fgComplete]

end Sys2Proof.Machine
end

