-- ==== Sys2Proof/Laws/Ops.lean ====
section
/-! SUPPORT. One lemma per shared operation that says once everything it can do, and the induction over a settle. -/

namespace Sys2Proof.Machine

/-! ## Outcomes -/

@[simp] theorem andThen_next (s : State) (f : State → Host.Outcome State Fault Refusal) :
    andThen (.next s) f = f s := rfl

@[simp] theorem andThen_fault (r : Fault) (f : State → Host.Outcome State Fault Refusal) :
    andThen (.fault r) f = .fault r := rfl

@[simp] theorem andThen_refused (r : Refusal) (f : State → Host.Outcome State Fault Refusal) :
    andThen (.refused r) f = .refused r := rfl

/-! ## The carrier -/

@[simp] theorem onValue_carrierIfMark (ph : Phase) (v : Nat) (s : State) :
    onValue (carrierIfMark ph v s) = onValue s := by
  simp [onValue]

@[simp] theorem onValue_enter (ph : Phase) (i : BitVec 5) (s : State) : onValue (enter ph i s) = onValue s := by
  simp [onValue]

@[simp] theorem onValue_startFrame (o : Owner) (k : FrameKind) (s : State) : onValue (startFrame o k s) = onValue s := by
  simp [onValue]

/-- What entering an interval leaves on the carrier: `ON_VALUE` in a mark, what it was in a space (R150, R151). -/
theorem enter_carrierValue (ph : Phase) (i : BitVec 5) (s : State) :
    (enter ph i s).carrierValue = if isMark ph then onValue s else s.carrierValue := by
  unfold enter carrierIfMark
  split <;> rfl

/-- A frame starts with a mark, so with `ON_VALUE` on the carrier (R153). -/
theorem startFrame_carrierValue (o : Owner) (k : FrameKind) (s : State) :
    (startFrame o k s).carrierValue = onValue s := by
  cases k <;> simp [startFrame, enter_carrierValue, firstPhase, isMark, onValue]

/-! ## The cancellation request -/

/-- The draw is within its bound (R38). -/
theorem delta_le (p : Params) (n : Nat) : Config.delta p n ≤ p.cancelLatencyMax := by
  unfold Config.delta
  split
  · omega
  · exact Nat.lt_succ_iff.1 (Nat.mod_lt _ (by omega))

/-- The latency loaded is within the bound, whether drawn or 0 (R38). -/
theorem cancelLatency_le (s : State) : cancelLatency s ≤ s.params.cancelLatencyMax := by
  unfold cancelLatency
  split
  · omega
  · exact delta_le _ _

/-- A request inside a background frame loads no latency (D12). -/
theorem cancelLatency_of_bgEmitting {s : State} (h : bgEmitting s = true) : cancelLatency s = 0 := by
  simp [cancelLatency, h]

/-- Everything a request can do: in REPEATING it turns to STOPPING with a latency, elsewhere it is a no-op (R205). -/
theorem requestCancel_cases (s : State) :
    (s.rptState = .repeating ∧
      requestCancel s = { s with
        rptState := .stopping
        cancelLat := toWord (cancelLatency s)
        draws := if bgEmitting s then s.draws else s.draws + 1 }) ∨
      (s.rptState ≠ .repeating ∧ requestCancel s = s) := by
  rcases hr : s.rptState
  · exact .inr ⟨by simp, by simp [requestCancel, hr]⟩
  · exact .inl ⟨rfl, by simp [requestCancel, hr]⟩
  · exact .inr ⟨by simp, by simp [requestCancel, hr]⟩

/-! ## The zero-time transitions -/

theorem intervalEndEnabled_iff (s : State) :
    intervalEndEnabled s = true ↔ s.seqPhase ≠ .idle ∧ s.ivlCnt = 0 := by
  simp [intervalEndEnabled]

theorem bgEmitting_iff (s : State) : bgEmitting s = true ↔ s.seqPhase ≠ .idle ∧ s.seqOwner = .bg := by
  simp [bgEmitting]

theorem bgStopEnabled_iff (s : State) :
    bgStopEnabled s = true ↔ s.rptState = .stopping ∧ bgEmitting s = false ∧ s.cancelLat = 0 := by
  simp [bgStopEnabled, and_assoc]

theorem fgJoinDoneEnabled_iff (s : State) :
    fgJoinDoneEnabled s = true ↔ s.fgStage = .join ∧ s.rptState = .idle ∧ joining s.cmdOp s.cmdArg = true := by
  simp [fgJoinDoneEnabled, and_assoc]

theorem bgFireEnabled_iff (s : State) :
    bgFireEnabled s = true ↔ s.rptState = .repeating ∧ s.seqPhase = .idle ∧ s.rptWait = 0 := by
  simp [bgFireEnabled, and_assoc]

/-- What one zero-time transition can be. -/
theorem zeroTime_cases {s s' : State} (h : zeroTime s = some s') :
    (intervalEndEnabled s = true ∧ s' = intervalEnd s) ∨
      (intervalEndEnabled s = false ∧ bgStopEnabled s = true ∧ s' = bgStop s) ∨
        (intervalEndEnabled s = false ∧ fgJoinDoneEnabled s = true ∧ s' = fgJoinDone s) ∨
          (intervalEndEnabled s = false ∧ bgFireEnabled s = true ∧ s' = bgFire s) := by
  unfold zeroTime at h
  split at h
  · exact .inl ⟨‹_›, by simpa using h.symm⟩
  split at h
  · exact .inr (.inl ⟨by simp_all, ‹_›, by simpa using h.symm⟩)
  split at h
  · exact .inr (.inr (.inl ⟨by simp_all, ‹_›, by simpa using h.symm⟩))
  split at h
  · exact .inr (.inr (.inr ⟨by simp_all, ‹_›, by simpa using h.symm⟩))
  · cases h

/-- No transition is taken exactly when none is enabled. -/
theorem zeroTime_none_iff (s : State) :
    zeroTime s = none ↔ intervalEndEnabled s = false ∧ bgStopEnabled s = false ∧ fgJoinDoneEnabled s = false ∧
      bgFireEnabled s = false := by
  unfold zeroTime
  repeat' split
  all_goals simp_all

/-! ## The settle -/

/-- A settle that ends, ends where no transition is enabled, and carries along whatever every transition keeps. -/
theorem settle_keeps {P : State → Prop} (hP : ∀ s s', P s → zeroTime s = some s' → P s') :
    ∀ {n : Nat} {s t : State}, settle n s = some t → P s → P t ∧ zeroTime t = none := by
  intro n
  induction n with
  | zero =>
    intro s t h hs
    simp only [settle] at h
    split at h
    · cases h; exact ⟨hs, ‹_›⟩
    · cases h
  | succ n ih =>
    intro s t h hs
    simp only [settle] at h
    split at h
    · cases h; exact ⟨hs, ‹_›⟩
    · exact ih h (hP _ _ hs ‹_›)

/-- Where no transition is enabled, the settle does nothing. -/
theorem settle_quiet {n : Nat} {s : State} (h : zeroTime s = none) : settle n s = some s := by
  cases n <;> simp [settle, h]

/-- One transition of a settle. -/
theorem settle_step {n : Nat} {s s' : State} (h : zeroTime s = some s') : settle (n + 1) s = settle n s' := by
  simp [settle, h]

/-- A settle that ends with some fuel ends in the same state with more. -/
theorem settle_mono {n : Nat} {s t : State} (h : settle n s = some t) : ∀ m, n ≤ m → settle m s = some t := by
  induction n generalizing s with
  | zero =>
    intro m _
    simp only [settle] at h
    split at h
    · cases h; exact settle_quiet ‹_›
    · cases h
  | succ n ih =>
    intro m hm
    obtain ⟨m, rfl⟩ : ∃ k, m = k + 1 := ⟨m - 1, by omega⟩
    simp only [settle] at h ⊢
    split at h
    · exact h
    · exact ih h m (by omega)

/-! ## The instant -/

/-- What the rest of an instant can answer. -/
theorem finishInstant_next {s t : State} (h : finishInstant s = .next t) :
    ∃ u, settle settleFuel s = some u ∧ t = tick u := by
  unfold finishInstant at h
  split at h
  · exact ⟨_, ‹_›, by simpa using h.symm⟩
  · cases h

/-- The rest of an instant whose settle is known. -/
theorem finishInstant_of_settle {n : Nat} {s u : State} (h : settle n s = some u) (hn : n ≤ settleFuel) :
    finishInstant s = .next (tick u) := by
  simp [finishInstant, settle_mono h _ hn]

/-- What an access that goes on and then the rest of the instant can answer. -/
theorem andThen_next_inv {o : Host.Outcome State Fault Refusal} {f : State → Host.Outcome State Fault Refusal}
    {t : State} (h : andThen o f = .next t) : ∃ s, o = .next s ∧ f s = .next t := by
  cases o with
  | next s => exact ⟨s, rfl, h⟩
  | fault r => cases h
  | refused r => cases h

/-- The issue of a command: a legal word runs its command, an illegal one is flagged (R92, R96). -/
theorem issue_cases {op : Byte} {s t : State} (h : issue op s = .next t) :
    (∃ i, decode (cmdWord op s.cmdArgReg) = .ok i ∧ exec i s = .next t) ∨
      (∃ e, decode (cmdWord op s.cmdArgReg) = .error e ∧ t = issueIllegal op s.cmdArgReg s) := by
  unfold issue at h
  split at h
  · exact .inl ⟨_, ‹_›, h⟩
  · exact .inr ⟨_, ‹_›, by simpa using h.symm⟩

/-- What a host write can do (R63, R65). -/
theorem hostWrite_cases {idx : Nat} {v : Word} {s t : State} (h : hostWrite idx v s = .next t) :
    (s.busy = true ∧ (idx = 0 ∨ idx = 1) ∧ t = raise .overrun s) ∨
      (s.busy = false ∧ idx = 0 ∧ t = { s with cmdArgReg := v }) ∨
        (s.busy = false ∧ idx = 1 ∧ issue (byte0 v) s = .next t) ∨
          (idx = 2 ∧ t = clearSticky v s) ∨ (3 ≤ idx ∧ t = s) := by
  unfold hostWrite at h
  split at h
  · split at h
    · exact .inl ⟨‹_›, .inl rfl, by simpa using h.symm⟩
    · exact .inr (.inl ⟨by simp_all, rfl, by simpa using h.symm⟩)
  · split at h
    · exact .inl ⟨‹_›, .inr rfl, by simpa using h.symm⟩
    · exact .inr (.inr (.inl ⟨by simp_all, rfl, h⟩))
  · exact .inr (.inr (.inr (.inl ⟨rfl, by simpa using h.symm⟩)))
  · rename_i h0 h1 h2
    refine .inr (.inr (.inr (.inr ⟨?_, by simpa using h.symm⟩)))
    have a0 : idx ≠ 0 := h0
    have a1 : idx ≠ 1 := h1
    have a2 : idx ≠ 2 := h2
    omega

/-- What a step can be: a reset, an instant with no access, with a read, or with a write. -/
theorem step_cases {s t : State} (h : step s = .next t) :
    ((takeInput s).1 = some .reset ∧ t = resetBlock (takeInput s).2) ∨
      ((takeInput s).1 = none ∧ finishInstant (takeInput s).2 = .next t) ∨
        (∃ idx, (takeInput s).1 = some (.read idx) ∧ finishInstant (recordRead idx (takeInput s).2) = .next t) ∨
          (∃ idx v u, (takeInput s).1 = some (.write idx v) ∧ hostWrite idx v (takeInput s).2 = .next u ∧
            finishInstant u = .next t) := by
  unfold step instant at h
  revert h
  rcases he : (takeInput s).1 with _ | ⟨idx⟩ | ⟨idx, v⟩ | _
  · intro h; exact .inr (.inl ⟨rfl, h⟩)
  · intro h; exact .inr (.inr (.inl ⟨idx, rfl, h⟩))
  · intro h
    obtain ⟨u, h1, h2⟩ := andThen_next_inv h
    exact .inr (.inr (.inr ⟨idx, v, u, rfl, h1, h2⟩))
  · intro h; exact .inl ⟨rfl, by simpa [runInstant] using h.symm⟩

/-- Taking an input changes the schedule only. -/
theorem takeInput_snd (s : State) : ∃ l, (takeInput s).2 = { s with inputs := l } := by
  unfold takeInput
  split
  · exact ⟨s.inputs, rfl⟩
  · exact ⟨_, rfl⟩
  · exact ⟨_, rfl⟩

/-- The induction over a step: what every input's effect and every zero-time transition keep, and what the tick turns
into `Q`, holds as `Q` of the next state. -/
theorem step_keeps {P Q : State → Prop} (hz : ∀ s s', P s → zeroTime s = some s' → P s')
    (ht : ∀ u, P u → zeroTime u = none → Q (tick u)) {s t : State} (h : step s = .next t)
    (hreset : (takeInput s).1 = some .reset → Q (resetBlock (takeInput s).2))
    (hnone : (takeInput s).1 = none → P (takeInput s).2)
    (hread : ∀ idx, (takeInput s).1 = some (.read idx) → P (recordRead idx (takeInput s).2))
    (hwrite : ∀ idx v u, (takeInput s).1 = some (.write idx v) → hostWrite idx v (takeInput s).2 = .next u → P u) :
    Q t := by
  have key : ∀ {u : State}, finishInstant u = .next t → P u → Q t := by
    intro u hu hp
    obtain ⟨w, hw, rfl⟩ := finishInstant_next hu
    obtain ⟨h1, h2⟩ := settle_keeps hz hw hp
    exact ht w h1 h2
  rcases step_cases h with ⟨e, rfl⟩ | ⟨e, h1⟩ | ⟨idx, e, h1⟩ | ⟨idx, v, u, e, h1, h2⟩
  · exact hreset e
  · exact key h1 (hnone e)
  · exact key h1 (hread idx e)
  · exact key h2 (hwrite idx v u e h1)

end Sys2Proof.Machine
end

