-- ==== Sys2Proof/Laws/PerInstr.lean ====
section
/-! SUPPORT. Facts about every command as syntax, one lemma per constructor. -/

namespace Sys2Proof.Laws.EncodeSelectsRow

/-- The word of a command has its opcode and its operand in their fields and selects a row of the opcode table, the
row of its mnemonic (30_encoding R90, R92, R93). -/
def Statement (i : Instr) : Prop :=
  opField (encode i) = i.opcode ∧ argField (encode i) = i.operand ∧
    ∃ r ∈ opcodeTable, r.mnemonic = i.mnemonic ∧ r.opcode = i.opcode ∧ r.selects (encode i) = true

/-- A word whose bits under the mask are the match's selects the row. -/
theorem selects_of_bits (r : OpcodeRow) (w : CmdWord)
    (h : ∀ i < 40, (w.getLsbD i && r.maskBits.getLsbD i) = r.matchBits.getLsbD i) : r.selects w = true := by
  simp only [OpcodeRow.selects, beq_iff_eq]
  apply BitVec.eq_of_getLsbD_eq
  intro i hi
  rw [BitVec.getLsbD_and]
  exact h i hi

theorem decodeRaw (code : Word) : Statement (.decodeRaw code) := by
  refine ⟨by simp [encode], by simp [encode], _, List.mem_of_getElem? (i := 0) rfl, rfl, rfl, selects_of_bits _ _ ?_⟩
  intro i hi
  simp only [encode, Instr.opcode, Instr.operand, getLsbD_cmdWord, opDecodeRaw]
  interval_cases i <;> simp

theorem encodeRaw (address : Half) (command : Byte) : Statement (.encodeRaw address command) := by
  refine ⟨by simp [encode], by simp [encode], _, List.mem_of_getElem? (i := 1) rfl, rfl, rfl, selects_of_bits _ _ ?_⟩
  intro i hi
  simp only [encode, Instr.opcode, Instr.operand, getLsbD_cmdWord, getLsbD_packAC, opEncodeRaw]
  interval_cases i <;> simp

theorem sendBytes (low high cmd invCmd : Byte) : Statement (.sendBytes low high cmd invCmd) := by
  refine ⟨by simp [encode], by simp [encode], _, List.mem_of_getElem? (i := 2) rfl, rfl, rfl, selects_of_bits _ _ ?_⟩
  intro i hi
  simp only [encode, Instr.opcode, Instr.operand, getLsbD_cmdWord, opSendBytes]
  interval_cases i <;> simp

theorem sendRepeatFrame : Statement .sendRepeatFrame := by
  unfold Statement; decide

theorem send (address : Half) (command : Byte) (autoRepeat : Bool) :
    Statement (.send address command autoRepeat) := by
  refine ⟨by simp [encode], by simp [encode], _, List.mem_of_getElem? (i := 4) rfl, rfl, rfl, selects_of_bits _ _ ?_⟩
  intro i hi
  simp only [encode, Instr.opcode, Instr.operand, getLsbD_cmdWord, getLsbD_packACR, opSend]
  interval_cases i <;> simp

theorem sendRaw (code : Word) : Statement (.sendRaw code) := by
  refine ⟨by simp [encode], by simp [encode], _, List.mem_of_getElem? (i := 5) rfl, rfl, rfl, selects_of_bits _ _ ?_⟩
  intro i hi
  simp only [encode, Instr.opcode, Instr.operand, getLsbD_cmdWord, opSendRaw]
  interval_cases i <;> simp

theorem stopRepeat : Statement .stopRepeat := by
  unfold Statement; decide

theorem configure (duty : Byte) : Statement (.configure duty) := by
  refine ⟨by simp [encode], by simp [encode], _, List.mem_of_getElem? (i := 7) rfl, rfl, rfl, selects_of_bits _ _ ?_⟩
  intro i hi
  simp only [encode, Instr.opcode, Instr.operand, getLsbD_cmdWord, getLsbD_packD, opConfigure]
  interval_cases i <;> simp

end Sys2Proof.Laws.EncodeSelectsRow
end

