-- ==== Sys2Proof/Safety.lean ====
section
/-! DEFINITION. What claims about NECTX speak of: quiescence (70_reset_and_hazards R283), the envelope (00_scope R13),
the invariants of 10_state R42, and the inductive invariant that carries them from step to step. -/

namespace Sys2Proof.Safety

open Sys2Proof.Machine

/-- The block is quiescent: `BUSY = 0`, `rpt_state = IDLE`, `seq_phase = PH_IDLE` (R283). -/
abbrev Quiescent (s : State) : Prop :=
  s.busy = false ∧ s.rptState = .idle ∧ s.seqPhase = .idle

/-- The input the step at `s` takes, if any (R12). -/
def inputNow (s : State) : Option InputEvent := (takeInput s).1

/-- `k` instants, stopping at the first stop. -/
def run (k : Nat) (s : State) : Host.Outcome State Fault Refusal := Host.Core.run Sys2Proof.core k s

/-- The host issues a command at this instant, and this is it: a write of an opcode to `CMD_OP` while not busy, with a
legal word (R92). -/
abbrev Issues (s : State) (i : Instr) : Prop :=
  s.busy = false ∧ ∃ v, inputNow s = some (.write 1 v) ∧ decode (cmdWord (byte0 v) s.cmdArgReg) = .ok i

/-- No reset is scheduled. -/
abbrev NoReset (s : State) : Prop := ∀ x ∈ s.inputs, x.event ≠ .reset

/-- The value the last pair at or before tick `t` wrote to the setter, 0 if there is none (R13). -/
def lastValue (tr : List (Nat × Nat)) (t : Nat) : Nat :=
  match (tr.filter fun p => p.1 ≤ t).getLast? with
  | some p => p.2
  | none => 0

/-- The envelope `env(t)`: the carrier is on (R13). -/
def envelope (tr : List (Nat × Nat)) (t : Nat) : Bool := lastValue tr t != 0

/-- The frame word a command transmits as a full frame, none for the other commands and an invalid `SEND_RAW` (R94). -/
def fullFrameOf : Instr → Option Word
  | .decodeRaw _ => none
  | .encodeRaw _ _ => none
  | .sendBytes low high cmd invCmd => some (rawCode low high cmd invCmd)
  | .sendRepeatFrame => none
  | .send address command _ => some (encodeRaw address command)
  | .sendRaw code => if (decodeRaw code).valid then some (encodeRaw (decodeRaw code).address (decodeRaw code).command) else none
  | .stopRepeat => none
  | .configure _ => none

/-- Whether a command starts a repeat session when its frame ends (R183). -/
def startsSession : Instr → Bool
  | .decodeRaw _ => false
  | .encodeRaw _ _ => false
  | .sendBytes _ _ _ _ => false
  | .sendRepeatFrame => false
  | .send _ _ autoRepeat => autoRepeat
  | .sendRaw _ => false
  | .stopRepeat => false
  | .configure _ => false

/-- The next step is the issue of `i`, and no input comes after it. -/
abbrev AboutToIssue (i : Instr) (s : State) : Prop :=
  s.cmdArgReg = i.operand ∧ s.inputs = [⟨0, .write 1 (i.opcode.setWidth 32)⟩]

/-- The ticks left of the frame in progress, 0 if there is none: what is left of the interval and the intervals not
yet started (R29, R30). -/
def frameTicksLeft (s : State) : Nat :=
  s.ivlCnt.toNat + (wholeDuration s.params s.frame s.seqPhase - startedDuration s.params s.frame s.seqPhase s.bitIdx)

/-! ## The invariants of R42 -/

/-- R42 point 1: a single active writer. -/
abbrev SingleWriter (s : State) : Prop :=
  (s.seqPhase ≠ .idle → s.seqOwner = .fg → s.rptState = .idle) ∧
    (s.seqPhase ≠ .idle → s.seqOwner = .bg → s.rptState ≠ .idle ∧ s.fgStage ≠ .emit)

/-- R42 point 2: FG is emitting exactly when the frame in progress is FG's. -/
abbrev EmitIsForeground (s : State) : Prop :=
  s.fgStage = .emit ↔ s.seqPhase ≠ .idle ∧ s.seqOwner = .fg

/-- R42 point 3. -/
abbrev JoinMeansStopping (s : State) : Prop := s.fgStage = .join → s.rptState = .stopping

/-- R42 point 4. -/
abbrev StoppingMeansJoin (s : State) : Prop := s.rptState = .stopping → s.fgStage = .join

/-- In a mark the carrier output is `ON_VALUE` of the present duty (R150). -/
abbrev CarrierIsOnValue (s : State) : Prop := isMark s.seqPhase = true → s.carrierValue = onValue s

/-- R42 point 5 as it is written: provided `ON_VALUE != 0`, the carrier is on exactly in marks. -/
abbrev CarrierExactlyInMarks (s : State) : Prop :=
  onValue s ≠ 0 → (s.carrierValue ≠ 0 ↔ isMark s.seqPhase = true)

/-- R42 point 5, less the one case in which the rules break it as written, a `CONFIGURE` inside a background mark
(log 10): outside marks the carrier is off; in a foreground mark it is `ON_VALUE`; in any mark it is on where
`TOP >= 100`. What holds in the case left out is the obligation `CarrierFollowsOnValue`. -/
abbrev CarrierOnlyInMarks (s : State) : Prop :=
  (s.carrierValue ≠ 0 → isMark s.seqPhase = true) ∧ (s.seqOwner = .fg → CarrierIsOnValue s) ∧
    (100 ≤ s.params.top → isMark s.seqPhase = true → s.carrierValue ≠ 0)

/-- R42 point 6, R34. -/
abbrev DutyLegal (s : State) : Prop := 1 ≤ s.duty.toNat ∧ s.duty.toNat ≤ 100

/-- R42 point 7. -/
abbrev FullFrameIsForeground (s : State) : Prop := inFullFrame s.seqPhase = true → s.seqOwner = .fg

/-- The invariants of R42. Point 8, at most one session, is that there is one `rptState`. -/
abbrev Guarantees (s : State) : Prop :=
  SingleWriter s ∧ EmitIsForeground s ∧ JoinMeansStopping s ∧ StoppingMeansJoin s ∧ CarrierOnlyInMarks s ∧
    DutyLegal s ∧ FullFrameIsForeground s

/-! ## What keeps them from step to step -/

/-- `BUSY` is the shadow of `fg_stage` (R39). -/
abbrev BusyIsStage (s : State) : Prop := s.busy = true ↔ s.fgStage ≠ .idle

/-- The command latched while FG is at work is one that joins, and one that emits while a frame of FG's goes out;
`auto_rpt` is a `SEND`'s (R32, R210, R212). -/
abbrev LatchedCommand (s : State) : Prop :=
  (s.fgStage ≠ .idle → joining s.cmdOp s.cmdArg = true) ∧ (s.fgStage = .emit → s.cmdOp ≠ opStopRepeat) ∧
    (s.autoRpt = true → s.cmdOp = opSend)

/-- The frame FG is sending is the one its command asks for (R212). -/
abbrev FrameOfCommand (s : State) : Prop :=
  s.fgStage = .emit →
    (s.cmdOp = opSendBytes → inFullFrame s.seqPhase = true ∧ s.frame = s.cmdArg) ∧
      (s.cmdOp = opSend → inFullFrame s.seqPhase = true ∧ s.frame = sendFrame s.cmdArg) ∧
        (s.cmdOp = opSendRaw → inFullFrame s.seqPhase = true ∧ s.frame = sendRawFrame s.cmdArg) ∧
          (s.cmdOp = opSendRepeatFrame → inRepeatFrame s.seqPhase = true)

/-- The counters are within what they were loaded with: an interval in progress has lost at least one tick, a wait is
at most a period, a latency at most its bound, and the accumulator is the sum so far (R29, R30, R37, R38). -/
abbrev CountersInRange (s : State) : Prop :=
  (s.seqPhase ≠ .idle → s.ivlCnt.toNat < dur s.params s.seqPhase s.bitIdx s.frame) ∧
    (s.seqPhase ≠ .idle → s.durAcc = toWord (startedDuration s.params s.frame s.seqPhase s.bitIdx)) ∧
      s.rptWait.toNat ≤ s.params.repeatPeriod ∧ s.cancelLat.toNat ≤ s.params.cancelLatencyMax

/-- No latency is left to run while BG is still inside the frame the request met: it is 0 there (D12, log 9). -/
abbrev LatencyOnlyWhileWaiting (s : State) : Prop :=
  s.rptState = .stopping → bgEmitting s = true → s.cancelLat = 0

/-- The carrier output is a value the setter accepts: at most `TOP` (R71). -/
abbrev CarrierInRange (s : State) : Prop := s.carrierValue ≤ s.params.top

/-- The inductive invariant: legal parameters, the guarantees of R42, and what keeps them. -/
structure Inv (s : State) : Prop where
  params : s.params.Valid
  guarantees : Guarantees s
  busy : BusyIsStage s
  latched : LatchedCommand s
  frame : FrameOfCommand s
  counters : CountersInRange s
  latency : LatencyOnlyWhileWaiting s
  carrier : CarrierInRange s

/-- What the instant of the step from `s` to `t` writes to TRACE by R150: a 0 if a mark of `s` ends at it, then
`ON_VALUE` if a mark starts at it. -/
def markWrites (s t : State) : List (Nat × Nat) :=
  (if isMark s.seqPhase = true ∧ s.ivlCnt = 0 then [(s.now, 0)] else []) ++
    if isMark t.seqPhase = true ∧ ¬(isMark s.seqPhase = true ∧ s.ivlCnt ≠ 0) then [(s.now, onValue t)] else []

/-- TRACE is in the order of time and holds nothing of the instant to come (R13). -/
abbrev TraceInOrder (s : State) : Prop :=
  (s.trace.Pairwise fun a b => a.1 ≤ b.1) ∧ ∀ p ∈ s.trace, p.1 < s.now

/-- TRACE is in pairs, the second of each 0 (R150): the entries at odd positions write 0, and a mark is in progress
exactly when the number of entries is odd. -/
abbrev TraceInPairs (s : State) : Prop :=
  (s.trace.length % 2 = 1 ↔ isMark s.seqPhase = true) ∧
    ∀ k, k % 2 = 1 → ∀ p, s.trace[k]? = some p → p.2 = 0

/-- The carrier output is what the last pair of TRACE wrote, 0 before the first (R13, R40). -/
abbrev TraceRecordsCarrier (s : State) : Prop :=
  s.carrierValue = match s.trace.getLast? with
    | some p => p.2
    | none => 0

/-- The state less everything the duty cycle and `TOP` decide: those two, the carrier value, the values in TRACE (its
times stay) and what reads returned. -/
def timingView (s : State) : State :=
  { s with
    params := { s.params with top := 0 }
    duty := 0
    carrierValue := 0
    trace := s.trace.map fun p => (p.1, 0)
    readLog := [] }

end Sys2Proof.Safety
end

