-- ==== Sys2Proof/Certificates/Slice0/Obligations.lean ====
section
/-! DEFINITION. The statements for the provers. Each cites the rules of spec/ it rests on. -/

open Sys2Proof Sys2Proof.Machine Sys2Proof.Safety

/-! ## Command words (30_encoding) -/

/-- Decoding the word of a command gives the command back, every operand at every value (R91, R93, R94). -/
def Obligations.DecodeEncodeGivesBack : Prop :=
  ∀ i : Instr, decode (encode i) = .ok i

/-- A legal word is the word of the command it decodes to, so the decoder drops no bit (R91, R93). -/
def Obligations.EncodeDecodeGivesBack : Prop :=
  ∀ (w : CmdWord) (i : Instr), decode w = .ok i → encode i = w

/-- The decoder accepts exactly the words some row of the opcode table selects, at most one row selects a word, and the
command is that row's (R92, R93). -/
def Obligations.DecoderFollowsOpcodeTable : Prop :=
  (∀ w, (∃ i, decode w = .ok i) ↔ wordWellFormed w = true) ∧
    (∀ w, ∀ r ∈ opcodeTable, ∀ r' ∈ opcodeTable, r.selects w = true → r'.selects w = true → r = r') ∧
      ∀ w i, decode w = .ok i → ∃ r ∈ opcodeTable, r.selects w = true ∧ r.mnemonic = i.mnemonic

/-- R95: exactly which words are illegal. -/
def Obligations.IllegalWordsExactly : Prop :=
  ∀ w : CmdWord, (∃ e, decode w = .error e) ↔
    (w.toNat / 2 ^ 32 = 0 ∨ 9 ≤ w.toNat / 2 ^ 32) ∨
      (w.toNat / 2 ^ 32 = 2 ∧ w.toNat % 2 ^ 32 / 2 ^ 24 ≠ 0) ∨
        ((w.toNat / 2 ^ 32 = 4 ∨ w.toNat / 2 ^ 32 = 7) ∧ w.toNat % 2 ^ 32 ≠ 0) ∨
          (w.toNat / 2 ^ 32 = 5 ∧ w.toNat % 2 ^ 32 / 2 ^ 25 ≠ 0) ∨
            (w.toNat / 2 ^ 32 = 8 ∧ w.toNat % 2 ^ 32 / 2 ^ 8 ≠ 0)

/-- The words of 95_test_vectors, one for each opcode, decode to the commands written beside them there. -/
def Obligations.SampleWordsDecode : Prop :=
  decode 0x01BF40FB05 = .ok (.decodeRaw 0xBF40FB05) ∧ decode 0x020034ED12 = .ok (.encodeRaw 0xED12 0x34) ∧
    decode 0x0312345678 = .ok (.sendBytes 0x78 0x56 0x34 0x12) ∧ decode 0x0400000000 = .ok .sendRepeatFrame ∧
      decode 0x0501400004 = .ok (.send 0x0004 0x40 true) ∧ decode 0x06FF000012 = .ok (.sendRaw 0xFF000012) ∧
        decode 0x0700000000 = .ok .stopRepeat ∧ decode 0x0800000032 = .ok (.configure 50)

/-! ## The codec (40_codec, 20_memory R66) -/

/-- R66: a raw code is its four bytes, the byte sent first least significant. -/
def Obligations.RawCodeByteOrder : Prop :=
  (∀ low high command inv : Byte,
    (rawCode low high command inv).toNat =
      low.toNat + high.toNat * 2 ^ 8 + command.toNat * 2 ^ 16 + inv.toNat * 2 ^ 24) ∧
    (∀ code : Word, rawCode (byte0 code) (byte1 code) (byte2 code) (byte3 code) = code) ∧
      encodeRaw 0x0100 0x00 = 0xFF000100

/-- R131: address decomposition, by the arithmetic of its bytes, with the rule's corner cases. -/
def Obligations.AddressDecomposition : Prop :=
  (∀ a : Half, (decomp a).1.toNat = a.toNat % 256 ∧
    (decomp a).2.toNat = if a.toNat / 256 = 0 then 255 - a.toNat % 256 else a.toNat / 256) ∧
    (∀ a : Half, (decomp a).2 = 0 → (decomp a).1 = 0xFF) ∧
      decomp 0x0000 = (0x00, 0xFF) ∧ decomp 0x00FF = (0xFF, 0x00) ∧ decomp 0x0100 = (0x00, 0x01) ∧
        decomp 0xFF00 = (0x00, 0xFF) ∧ decomp 0xFFFF = (0xFF, 0xFF)

/-- R132: address resolution, by the arithmetic of its bytes, with the rule's corner cases. -/
def Obligations.AddressResolution : Prop :=
  (∀ low high : Byte, (resolve low high).toNat =
    if high.toNat = 255 - low.toNat then low.toNat else high.toNat * 256 + low.toNat) ∧
    resolve 0x00 0xFF = 0x0000 ∧ resolve 0xFF 0x00 = 0x00FF ∧ resolve 0x00 0x01 = 0x0100 ∧
      resolve 0x12 0x00 = 0x0012 ∧ resolve 0xFF 0xFF = 0xFFFF

/-- R133 (a) to (e): where resolution undoes decomposition, where it collapses, the converse, and the addresses no pair
resolves to. -/
def Obligations.AddressRoundTripAndCollapse : Prop :=
  (∀ a : Half, a.toNat ≤ 0xFF ∨ not8 (a.extractLsb' 0 8) ≠ a.extractLsb' 8 8 →
    resolve (decomp a).1 (decomp a).2 = a) ∧
    (∀ a : Half, 0x100 ≤ a.toNat → a.extractLsb' 8 8 = not8 (a.extractLsb' 0 8) →
      resolve (decomp a).1 (decomp a).2 = zext16 (a.extractLsb' 0 8)) ∧
      (∀ low high : Byte, ¬(high = 0x00 ∧ low ≠ 0xFF) → decomp (resolve low high) = (low, high)) ∧
        (∀ low : Byte, low ≠ 0xFF → decomp (resolve low 0x00) = (low, not8 low)) ∧
          (∀ low : Byte, low ≠ 0xFF → resolve low (not8 low) = zext16 low ∧ resolve low 0x00 = zext16 low) ∧
            ∀ a : Half, (∃ low high, resolve low high = a) ↔
              ¬(0x100 ≤ a.toNat ∧ a.extractLsb' 8 8 = not8 (a.extractLsb' 0 8))

/-- R138: the properties the codec must have, 1 to 7, and the remark on property 5. -/
def Obligations.CodecProperties : Prop :=
  (∀ (a : Half) (c : Byte), a.toNat ≤ 0xFF → decodeRaw (encodeRaw a c) = ⟨true, a, c⟩) ∧
    (∀ (a : Half) (c : Byte), 0x100 ≤ a.toNat → a.extractLsb' 8 8 ≠ not8 (a.extractLsb' 0 8) →
      decodeRaw (encodeRaw a c) = ⟨true, a, c⟩) ∧
    (∀ (a : Half) (c : Byte), 0x100 ≤ a.toNat → a.extractLsb' 8 8 = not8 (a.extractLsb' 0 8) →
      decodeRaw (encodeRaw a c) = ⟨true, a &&& 0x00FF, c⟩) ∧
    (∀ code : Word, byte2 code ≠ not8 (byte3 code) → (decodeRaw code).valid = false) ∧
    (∀ (code : Word) (b : Nat), (decodeRaw code).valid = true → 16 ≤ b → b < 32 →
      (decodeRaw (code ^^^ BitVec.twoPow 32 b)).valid = false) ∧
    (∀ (code : Word) (b : Nat), (decodeRaw code).valid = true → 16 ≤ b → b < 24 →
      (decodeRaw (code ^^^ BitVec.twoPow 32 b ^^^ BitVec.twoPow 32 (b + 8))).valid = true) ∧
    (∀ code : Word, (decodeRaw code).valid = true → ¬(byte1 code = 0x00 ∧ byte0 code ≠ 0xFF) →
      encodeRaw (decodeRaw code).address (decodeRaw code).command = code) ∧
    (∀ code : Word, (decodeRaw code).valid = true → byte1 code = 0x00 → byte0 code ≠ 0xFF →
      encodeRaw (decodeRaw code).address (decodeRaw code).command =
        rawCode (byte0 code) (not8 (byte0 code)) (byte2 code) (byte3 code)) ∧
    ∀ (a : Half) (c : Byte), (decodeRaw (encodeRaw a c)).valid = true

/-- R139: the five concrete vectors. -/
def Obligations.ConcreteVectors : Prop :=
  encodeRaw 0x0000 0x00 = 0xFF00FF00 ∧ encodeRaw 0x0000 0xFF = 0x00FFFF00 ∧ encodeRaw 0x00FF 0x00 = 0xFF0000FF ∧
    encodeRaw 0x0100 0x00 = 0xFF000100 ∧ encodeRaw 0xFE00 0x00 = 0xFF00FE00

/-- How many bits of a `SEND` frame are 1: 16 with an 8-bit address, 9 to 24 with an extended one (R137, R181). -/
def Obligations.SendFrameOneBits : Prop :=
  ∀ (a : Half) (c : Byte),
    popcount (encodeRaw a c) =
      8 + popcount ((decomp a).1.setWidth 32) + popcount ((decomp a).2.setWidth 32) ∧
    (a.toNat ≤ 0xFF → popcount (encodeRaw a c) = 16) ∧
      (0x100 ≤ a.toNat → 9 ≤ popcount (encodeRaw a c) ∧ popcount (encodeRaw a c) ≤ 24)

/-- `SEND_RAW` transmits the code it was given but for the codes with a zero high byte and a low byte other than 0xFF,
which it re-encodes in the 8-bit form (R186, R187). -/
def Obligations.SendRawFrameMayDiffer : Prop :=
  (∀ code : Word, (decodeRaw code).valid = true →
    sendRawFrame code =
      if byte1 code = 0x00 ∧ byte0 code ≠ 0xFF then
        rawCode (byte0 code) (not8 (byte0 code)) (byte2 code) (byte3 code)
      else code) ∧
    sendRawFrame 0xFF000012 = 0xFF00ED12

/-! ## The wire frames (30_encoding R100 to R103, R157) -/

/-- R100: the 67 intervals of a full frame, by number, and the bytes its data bits are. -/
def Obligations.FullFrameIntervals : Prop :=
  ∀ (p : Params) (F : Word),
    (frameIntervals p F).length = 67 ∧ (frameIntervals p F)[0]? = some ⟨.mark, p.leadMark⟩ ∧
      (frameIntervals p F)[1]? = some ⟨.space, p.leadSpace⟩ ∧
      (∀ i < 32, (frameIntervals p F)[2 + 2 * i]? = some ⟨.mark, p.bitMark⟩ ∧
        (frameIntervals p F)[3 + 2 * i]? =
          some ⟨.space, if F.getLsbD i = true then p.bit1Space else p.bit0Space⟩) ∧
      (frameIntervals p F)[66]? = some ⟨.mark, p.trailMark⟩ ∧
      ∀ (low high cmd invCmd : Byte), ∀ i < 8,
        (rawCode low high cmd invCmd).getLsbD i = low.getLsbD i ∧
        (rawCode low high cmd invCmd).getLsbD (8 + i) = high.getLsbD i ∧
        (rawCode low high cmd invCmd).getLsbD (16 + i) = cmd.getLsbD i ∧
        (rawCode low high cmd invCmd).getLsbD (24 + i) = invCmd.getLsbD i

/-- R102: the intervals of a full frame add up to its duration, which depends on the number of 1 bits only. -/
def Obligations.FrameDurationIsSum : Prop :=
  ∀ (p : Params) (F : Word),
    totalDuration (frameIntervals p F) =
      p.leadMark + p.leadSpace + 32 * p.bitMark + p.trailMark + popcount F * p.bit1Space +
        (32 - popcount F) * p.bit0Space ∧
    frameDuration p F = totalDuration (frameIntervals p F)

/-- A full frame writes 68 pairs to TRACE and a repeat frame 4, the last of each an end of carrier at the frame's end
(R157, R158). -/
def Obligations.FrameTraceShape : Prop :=
  ∀ (p : Params) (F : Word) (on t : Nat),
    (intervalsTrace on t (frameIntervals p F)).length = 68 ∧
      (intervalsTrace on t (frameIntervals p F)).getLast? = some (t + frameDuration p F, 0) ∧
      intervalsTrace on t (repeatIntervals p) =
        [(t, on), (t + p.leadMark, 0), (t + p.leadMark + p.repeatSpace, on), (t + p.repeatDuration, 0)]

/-! ## What each command does at its issue -/

/-- R135: `DECODE_RAW` writes `R_DECODE`, valid or not, with the rule's encoding and corner cases, and nothing else but
the issue latches. -/
def Obligations.DecodeRawCompletes : Prop :=
  (∀ (code : Word) (s : State),
    exec (.decodeRaw code) s = .next { s with
      cmdOp := 0x01, cmdArg := code, autoRpt := false
      rDecode := BitVec.ofBool (code.extractLsb' 16 8 == ~~~(code.extractLsb' 24 8)) ++ code.extractLsb' 16 8 ++
        resolve (code.extractLsb' 0 8) (code.extractLsb' 8 8) }) ∧
    (∀ code : Word, decode ((0x01 : Byte) ++ code) = .ok (.decodeRaw code)) ∧
    ∀ c ∈ [((0x00000000 : Word), (0x00000000 : Word)), (0xFFFFFFFF, 0x00FFFFFF), (0x00FF00FF, 0x01FF00FF),
        (0xFF000100, 0x01000100)],
      ∀ s : State, ∃ t, exec (.decodeRaw c.1) s = .next t ∧ hostRead 5 t = c.2

/-- R136: `ENCODE_RAW` writes `R_CODE`, with the rule's encoding and corner cases, and nothing else but the issue
latches. -/
def Obligations.EncodeRawCompletes : Prop :=
  (∀ (a : Half) (c : Byte) (s : State),
    exec (.encodeRaw a c) s = .next { s with
      cmdOp := 0x02, cmdArg := (0 : Byte) ++ c ++ a, autoRpt := false
      rCode := ~~~c ++ c ++ (decomp a).2 ++ (decomp a).1 }) ∧
    (∀ arg : Word, decode ((0x02 : Byte) ++ arg) =
      if arg.extractLsb' 24 8 = 0 then .ok (.encodeRaw (arg.extractLsb' 0 16) (arg.extractLsb' 16 8))
      else .error (.reservedOperandBits 0x02)) ∧
    encodeRaw 0xFF00 0x00 = encodeRaw 0x0000 0x00 ∧ byte0 (encodeRaw 0x00FF 0x00) = 0xFF ∧
      byte1 (encodeRaw 0x00FF 0x00) = 0x00 ∧ encodeRaw 0x0000 0x00 = 0xFF00FF00

/-- The issue of `SEND_BYTES`, `SEND_REPEAT_FRAME`, `SEND` and `STOP_REPEAT`: the latches, `BUSY`, the join, and the
cancellation of a running session with a latency drawn in its bound; nothing else (R92, R156, R158, R180, R205, R208,
R210; the latency is 0 inside a background
frame, log 9; that it is elsewhere a draw counted by `draws` is the model's form of a free value, log 3). -/
def Obligations.JoiningCommandsIssue : Prop :=
  ∀ (op : Byte) (arg : Word) (auto : Bool) (i : Instr) (s : State),
    ((∃ l h c v, i = .sendBytes l h c v ∧ op = 0x03 ∧ arg = v ++ c ++ h ++ l ∧ auto = false) ∨
      (i = .sendRepeatFrame ∧ op = 0x04 ∧ arg = 0 ∧ auto = false) ∨
      (∃ a c r, i = .send a c r ∧ op = 0x05 ∧ arg = (0 : BitVec 7) ++ BitVec.ofBool r ++ c ++ a ∧ auto = r) ∨
      (i = .stopRepeat ∧ op = 0x07 ∧ arg = 0 ∧ auto = false)) →
    ∃ delta : Nat, delta ≤ s.params.cancelLatencyMax ∧ (bgEmitting s = true → delta = 0) ∧
      exec i s = .next { s with
        cmdOp := op, cmdArg := arg, autoRpt := auto, busy := true, fgStage := .join
        rptState := if s.rptState = .repeating then .stopping else s.rptState
        cancelLat := if s.rptState = .repeating then BitVec.ofNat 32 delta else s.cancelLat
        draws := if s.rptState = .repeating ∧ bgEmitting s = false then s.draws + 1 else s.draws }

/-- `SEND_RAW`: a valid code joins as the other sends do; an invalid one gives `R_DURATION` 0 and changes nothing else
but the latches, a running session among what it leaves (R185, R188; for the latency see log 3
and log 9). -/
def Obligations.SendRawIssue : Prop :=
  (∀ (code : Word) (s : State), code.extractLsb' 16 8 = ~~~(code.extractLsb' 24 8) →
    ∃ delta : Nat, delta ≤ s.params.cancelLatencyMax ∧ (bgEmitting s = true → delta = 0) ∧
      exec (.sendRaw code) s = .next { s with
        cmdOp := 0x06, cmdArg := code, autoRpt := false, busy := true, fgStage := .join
        rptState := if s.rptState = .repeating then .stopping else s.rptState
        cancelLat := if s.rptState = .repeating then BitVec.ofNat 32 delta else s.cancelLat
        draws := if s.rptState = .repeating ∧ bgEmitting s = false then s.draws + 1 else s.draws }) ∧
    ∀ (code : Word) (s : State), code.extractLsb' 16 8 ≠ ~~~(code.extractLsb' 24 8) →
      exec (.sendRaw code) s = .next { s with cmdOp := 0x06, cmdArg := code, autoRpt := false, rDuration := 0 }

/-- R230: `CONFIGURE` stores a duty of 1 to 100 and 33 for any other, with the rule's encoding and corner cases, and
nothing else but the issue latches. -/
def Obligations.ConfigureCompletes : Prop :=
  (∀ (d : Byte) (s : State),
    exec (.configure d) s = .next { s with
      cmdOp := 0x08, cmdArg := (0 : BitVec 24) ++ d, autoRpt := false
      duty := if 1 ≤ d.toNat ∧ d.toNat ≤ 100 then BitVec.ofNat 7 d.toNat else 33 }) ∧
    (∀ arg : Word, decode ((0x08 : Byte) ++ arg) =
      if arg.extractLsb' 8 24 = 0 then .ok (.configure (arg.extractLsb' 0 8))
      else .error (.reservedOperandBits 0x08)) ∧
    ∀ c ∈ [((0 : Byte), (33 : Word)), (1, 1), (100, 100), (101, 33), (255, 33), (33, 33), (50, 0x32)],
      ∀ s : State, ∃ t, exec (.configure c.1) s = .next t ∧ hostRead 6 t = c.2

/-! ## The host port (20_memory, 10_state) -/

/-- R33: the layout of `STATUS`, field by field with the codes of R28, R31 and R36, and what a write to it does, whatever `BUSY` is. -/
def Obligations.StatusRegister : Prop :=
  (∀ s : State, (hostRead 2 s).getLsbD 0 = s.busy ∧
      (hostRead 2 s).extractLsb' 1 2 =
        (match s.rptState with | .idle => 0 | .repeating => 1 | .stopping => 2 : BitVec 2) ∧
      (hostRead 2 s).getLsbD 3 = decide (s.carrierValue ≠ 0) ∧ (hostRead 2 s).getLsbD 4 = s.ill ∧
      (hostRead 2 s).getLsbD 5 = s.ovr ∧ (hostRead 2 s).getLsbD 6 = decide (s.seqOwner = .bg) ∧
      (hostRead 2 s).extractLsb' 7 4 =
        (match s.seqPhase with
          | .idle => 0 | .leadMark => 1 | .leadSpace => 2 | .bitMark => 3 | .bitSpace => 4 | .trailMark => 5
          | .rptLeadMark => 6 | .rptSpace => 7 | .rptTrailMark => 8 : BitVec 4) ∧ (hostRead 2 s).extractLsb' 11 5 = s.bitIdx ∧
      (hostRead 2 s).extractLsb' 16 16 = 0) ∧
    (∀ (s : State) (v : Word),
      hostWrite 2 v s = .next { s with ill := s.ill && !v.getLsbD 4, ovr := s.ovr && !v.getLsbD 5 }) ∧
      hostRead 2 State.reset = 0

/-- What a host read returns, register by register, and that it leaves the block alone: the instant goes on as it would,
with the read recorded before the transitions (R62; the record itself is the model's choice, log 14). -/
def Obligations.HostReads : Prop :=
  (∀ s : State, hostRead 0 s = s.cmdArgReg ∧ (hostRead 1 s).toNat = s.cmdOp.toNat ∧ hostRead 3 s = s.rDuration ∧
      hostRead 4 s = s.rCode ∧ (hostRead 5 s).toNat = s.rDecode.toNat ∧ (hostRead 6 s).toNat = s.duty.toNat ∧
      hostRead 2 s = statusWord s ∧ ∀ idx, 7 ≤ idx → hostRead idx s = 0) ∧
    ∀ (s : State) (idx : Nat), inputNow s = some (.read idx) →
      step s = finishInstant { (takeInput s).2 with readLog := s.readLog ++ [⟨s.now, idx, hostRead idx s⟩] } ∧
      ∀ t, finishInstant (takeInput s).2 = .next t →
        step s = .next { t with readLog := s.readLog ++ [⟨s.now, idx, hostRead idx s⟩] }

/-- R64: index 7 and above. -/
def Obligations.ReservedIndices : Prop :=
  ∀ (s : State) (idx : Nat) (v : Word), 7 ≤ idx → hostRead idx s = 0 ∧ hostWrite idx v s = .next s

/-- R63: what a host write does, index by index, and that it comes before the transitions of its instant. -/
def Obligations.HostWrites : Prop :=
  (∀ (s : State) (v : Word),
    (s.busy = false → hostWrite 0 v s = .next { s with cmdArgReg := v }) ∧
    (s.busy = true → hostWrite 0 v s = .next { s with ovr := true }) ∧
    (s.busy = false → hostWrite 1 v s = issue (v.extractLsb' 0 8) s) ∧
    (s.busy = true → hostWrite 1 v s = .next { s with ovr := true }) ∧
    hostWrite 2 v s = .next { s with ill := s.ill && !v.getLsbD 4, ovr := s.ovr && !v.getLsbD 5 } ∧
    ∀ idx, 3 ≤ idx → hostWrite idx v s = .next s) ∧
    ∀ (s : State) (idx : Nat) (v : Word), inputNow s = some (.write idx v) →
      step s = andThen (hostWrite idx v (takeInput s).2) finishInstant

/-- R244: a word that matches no row of the opcode table is latched and sets `ILL`, nothing else; `ILL` is cleared only by a 1 written to `STATUS[4]`
or by reset. -/
def Obligations.IllegalWordRaisesIll : Prop :=
  (∀ (s : State) (v : Word), s.busy = false → wordWellFormed (v.extractLsb' 0 8 ++ s.cmdArgReg) = false →
      hostWrite 1 v s = .next { s with
        cmdOp := byte0 v, cmdArg := s.cmdArgReg, autoRpt := false, ill := true }) ∧
    ∀ s t : State, step s = .next t → s.ill = true → t.ill = false →
      inputNow s = some .reset ∨ ∃ v : Word, inputNow s = some (.write 2 v) ∧ v.getLsbD 4 = true

/-- R245: a command-port write while busy is dropped, sets `OVR` and does not disturb the command in execution: the
instant is the one without the access, but for `OVR`. `OVR` is cleared only by a 1 written to `STATUS[5]` or by
reset. -/
def Obligations.OverrunOnlySetsOvr : Prop :=
  (∀ (s : State) (idx : Nat) (v : Word), s.busy = true → inputNow s = some (.write idx v) → idx < 2 →
    ∀ t, finishInstant (takeInput s).2 = .next t → step s = .next { t with ovr := true }) ∧
    ∀ s t : State, step s = .next t → s.ovr = true → t.ovr = false →
      inputNow s = some .reset ∨ ∃ v : Word, inputNow s = some (.write 2 v) ∧ v.getLsbD 5 = true

/-- A result register or `DUTY` changes only when its command is issued, and then to that command's result
(R26, R34, R130, R231). -/
def Obligations.ResultsOnlyByTheirCommands : Prop :=
  ∀ s t : State, step s = .next t → inputNow s ≠ some .reset →
    (t.rCode ≠ s.rCode → ∃ a c, Issues s (.encodeRaw a c) ∧ t.rCode = encodeRaw a c) ∧
    (t.rDecode ≠ s.rDecode → ∃ code, Issues s (.decodeRaw code) ∧ t.rDecode = decodeResult (decodeRaw code)) ∧
    (t.duty ≠ s.duty → ∃ d, Issues s (.configure d) ∧ t.duty = legalDuty d) ∧
    (t.cmdArgReg ≠ s.cmdArgReg → s.busy = false ∧ inputNow s = some (.write 0 t.cmdArgReg))

/-! ## The step (43_repeat R216) -/

/-- A step at which the host writes an opcode that makes a legal word with `CMD_ARG` runs that command, then the
transitions, then the tick. -/
def Obligations.StepRunsDecodedCommand : Prop :=
  ∀ (s : State) (v : Word) (rest : List Input) (i : Instr), s.busy = false →
    s.inputs = ⟨0, .write 1 v⟩ :: rest → decode (cmdWord (byte0 v) s.cmdArgReg) = .ok i →
      step s = andThen (exec i { s with inputs := rest }) finishInstant

/-- The instruction of a table row placed by `withFetchWord` is the one the very next step runs (log 16). -/
def Obligations.PlacedWordIsRun : Prop :=
  ∀ (s : State) (nbits w : Nat) (i : Instr), s.busy = false → decodeTableWord nbits w = some i →
    step (s.withFetchWord nbits w) = andThen (exec i { s with cmdArgReg := i.operand }) finishInstant

/-- At most three zero-time transitions settle an instant, from any state, and none is enabled after them (R216). -/
def Obligations.SettleEndsInThree : Prop :=
  ∀ s : State, s.params.Valid → ∃ t, settle 3 s = some t ∧ zeroTime t = none

/-- No condition stops the block: with legal parameters every step of every state has a next state (R240). -/
def Obligations.StepNeverStops : Prop :=
  ∀ s : State, s.params.Valid → ∃ t, step s = .next t

/-- At most one of the four zero-time transitions is enabled (R216). -/
def Obligations.TransitionsExcludeEachOther : Prop :=
  ∀ s : State, SingleWriter s → EmitIsForeground s →
    (intervalEndEnabled s = true → bgStopEnabled s = false ∧ fgJoinDoneEnabled s = false ∧ bgFireEnabled s = false) ∧
    (bgStopEnabled s = true → fgJoinDoneEnabled s = false ∧ bgFireEnabled s = false) ∧
    (fgJoinDoneEnabled s = true → bgFireEnabled s = false)

/-- The parameters are constant for a run, through a reset too (R45, R282). -/
def Obligations.ParametersConstant : Prop :=
  ∀ s t : State, step s = .next t → t.params = s.params

/-- R46: every element's value after reset, whatever state the reset finds. -/
def Obligations.ResetValues : Prop :=
  ∀ before s : State, s = State.reset ∨ s = resetBlock before →
    s.cmdArgReg = 0 ∧ s.cmdOp = 0 ∧ s.cmdArg = 0 ∧ s.frame = 0 ∧ s.rDuration = 0 ∧ s.rCode = 0 ∧ s.rDecode = 0 ∧
      s.seqPhase = .idle ∧ s.bitIdx = 0 ∧ s.ivlCnt = 0 ∧ s.durAcc = 0 ∧ s.seqOwner = .fg ∧ s.busy = false ∧
      s.ill = false ∧ s.ovr = false ∧ s.autoRpt = false ∧ s.duty = 33 ∧ s.rptState = .idle ∧ s.rptWait = 0 ∧
      s.cancelLat = 0 ∧ s.fgStage = .idle ∧ s.carrierValue = 0 ∧ s.now = 0 ∧ s.trace = []

/-- The reset input abandons whatever is in progress: the next state is the reset state with the parameters, the inputs
still to come and the count of draws kept (R280, R282; that these three are kept is the model's choice, log 13). -/
def Obligations.ResetInputRestarts : Prop :=
  ∀ (s : State) (rest : List Input), s.inputs = ⟨0, .reset⟩ :: rest →
    step s = .next { State.reset with params := s.params, inputs := rest, draws := s.draws }

/-! ## Invariants (10_state R42) -/

/-- The invariant holds after reset, with every legal parameter set and every schedule of inputs. -/
def Obligations.InvariantAfterReset : Prop :=
  Inv State.reset ∧
    ∀ (p : Params) (l : List Input), p.Valid → Inv { State.reset with params := p, inputs := l }

/-- Every step keeps the invariant: the guarantees of R42, `BUSY` as the shadow of the stage, the counters in their
ranges and the accumulator equal to the sum of the intervals started (R29, R30, R37 to R39, R42, R71; the proviso of
R42 point 5 is read as log 10 says, and no latency is left inside a background frame as log 9 says). -/
def Obligations.StepKeepsInvariant : Prop :=
  ∀ s t : State, Inv s → step s = .next t → Inv t

/-- Every step keeps TRACE in the order of time, whatever the state (R13). -/
def Obligations.StepKeepsTraceInOrder : Prop :=
  ∀ s t : State, TraceInOrder s → step s = .next t → TraceInOrder t

/-- Every step keeps TRACE in pairs, the second of each 0 (R150, R151). How many entries each mark writes is
`MarkWritesTraceTwice`. -/
def Obligations.StepKeepsTraceInPairs : Prop :=
  ∀ s t : State, Inv s → TraceInPairs s → step s = .next t → TraceInPairs t

/-- Every step keeps the carrier output equal to the last value written, whatever the state (R13, R40). -/
def Obligations.StepKeepsTraceRecordsCarrier : Prop :=
  ∀ s t : State, TraceRecordsCarrier s → step s = .next t → TraceRecordsCarrier t

/-- What an instant adds to TRACE bears its time, and each value is 0 or `ON_VALUE` of the duty in force after the
host's access (R13, R71, R150, R231). -/
def Obligations.TraceGrowsByThisInstant : Prop :=
  ∀ s t : State, step s = .next t → inputNow s ≠ some .reset →
    ∃ l, t.trace = s.trace ++ l ∧ ∀ p ∈ l, p.1 = s.now ∧ (p.2 = 0 ∨ p.2 = t.params.top * t.duty.toNat / 100)

/-- The duty cycle and `TOP` decide no timing: two states that differ only in what those decide go on to states that
differ only in it (R150, R231). -/
def Obligations.DutyDecidesNoTiming : Prop :=
  ∀ s t s' : State, timingView s = timingView t → step s = .next s' →
    ∃ t', step t = .next t' ∧ timingView s' = timingView t'

/-! ## The emitter and the coordinator -/

/-- R152: nothing but reset shortens, lengthens or abandons an interval, and the intervals of a frame follow back to
back; reset ends it at once. -/
def Obligations.IntervalsAreNotCut : Prop :=
  ∀ s t : State, Inv s → s.seqPhase ≠ .idle → step s = .next t →
    (inputNow s = some .reset → t.seqPhase = .idle ∧ t.ivlCnt = 0 ∧ t.carrierValue = 0) ∧
    (inputNow s ≠ some .reset → s.ivlCnt ≠ 0 → t.seqPhase = s.seqPhase ∧ t.bitIdx = s.bitIdx ∧ t.ivlCnt.toNat + 1 = s.ivlCnt.toNat ∧
      t.seqOwner = s.seqOwner ∧ t.carrierValue = s.carrierValue ∧ t.trace = s.trace) ∧
    ∀ ph i, inputNow s ≠ some .reset → s.ivlCnt = 0 → nextPosition s.seqPhase s.bitIdx = some (ph, i) →
      t.seqPhase = ph ∧ t.bitIdx = i ∧ t.ivlCnt.toNat + 1 = dur s.params ph i s.frame ∧ t.seqOwner = s.seqOwner

/-- A quiescent block does nothing until the host writes: nothing changes but the time, the schedule and the record of
a read (R283; that record is the model's choice, log 14). -/
def Obligations.QuiescentBlockRests : Prop :=
  ∀ s : State, Inv s → Quiescent s →
    (inputNow s = none → step s = .next { (takeInput s).2 with now := s.now + 1 }) ∧
    ∀ idx, inputNow s = some (.read idx) →
      step s = .next { (takeInput s).2 with
        now := s.now + 1, readLog := s.readLog ++ [⟨s.now, idx, hostRead idx s⟩] }

/-- While no command is in execution and the host writes nothing, the background changes no register of the
foreground's, no result and no flag (R204, R218). -/
def Obligations.BackgroundLeavesForeground : Prop :=
  ∀ s t : State, Inv s → s.fgStage = .idle → (inputNow s = none ∨ ∃ idx, inputNow s = some (.read idx)) →
    step s = .next t →
      t.cmdArgReg = s.cmdArgReg ∧ t.cmdOp = s.cmdOp ∧ t.cmdArg = s.cmdArg ∧ t.frame = s.frame ∧
        t.rDuration = s.rDuration ∧ t.rCode = s.rCode ∧ t.rDecode = s.rDecode ∧ t.busy = s.busy ∧ t.ill = s.ill ∧
        t.ovr = s.ovr ∧ t.autoRpt = s.autoRpt ∧ t.duty = s.duty ∧ t.fgStage = s.fgStage ∧
        (t.rptState = s.rptState) ∧ inFullFrame t.seqPhase = false

/-- How the coordinator's state can change in an instant without reset: a session starts only where the trail mark of a
`SEND` with `auto_rpt` ends; it is left only for a joining command issued at this instant; nothing goes from STOPPING
to REPEATING (R200, R202, R205). -/
def Obligations.CoordinatorTransitions : Prop :=
  ∀ s t : State, Inv s → inputNow s ≠ some .reset → step s = .next t →
    (s.rptState = .idle → t.rptState = .repeating →
      s.fgStage = .emit ∧ s.cmdOp = 0x05 ∧ s.autoRpt = true ∧ s.seqPhase = .trailMark ∧ s.ivlCnt = 0) ∧
    (s.rptState = .idle → t.rptState ≠ .stopping) ∧
    (s.rptState = .repeating → t.rptState ≠ .repeating →
      ∃ i, Issues s i ∧ joining i.opcode i.operand = true) ∧
    (s.rptState = .repeating → ∀ i, Issues s i → joining i.opcode i.operand = true → t.rptState ≠ .repeating) ∧
    (s.rptState = .stopping → t.rptState ≠ .repeating)

/-- No background repeat frame starts in STOPPING, nor at the instant of the request: where BG is emitting after such an
instant, it was emitting before it, and where it is in a repeat lead mark, it was in that lead mark before. A request at
the very instant of a cadence expiry wins, and so does one at the instant a frame ends with no wait after it
(R204, R205, R214, R252). -/
def Obligations.NoRepeatFrameAfterRequest : Prop :=
  ∀ s t : State, Inv s → step s = .next t →
    (s.rptState = .stopping ∨ ∃ i, Issues s i ∧ joining i.opcode i.operand = true) →
      bgEmitting t = true → bgEmitting s = true ∧ (t.seqPhase = .rptLeadMark → s.seqPhase = .rptLeadMark ∧ s.ivlCnt ≠ 0)

/-- When `BUSY` falls without a reset, the command's result is there: an emitting command leaves its frame's duration in
`R_DURATION`, `STOP_REPEAT` leaves `R_DURATION` alone; the session is on exactly after a `SEND` with auto-repeat
(R25, R73, R208, R213). -/
def Obligations.ResultsWhenBusyFalls : Prop :=
  ∀ s t : State, Inv s → s.busy = true → inputNow s ≠ some .reset → step s = .next t → t.busy = false →
    (s.cmdOp = 0x07 → t.rDuration = s.rDuration ∧ t.rptState = .idle) ∧
    (s.cmdOp ≠ 0x07 → s.fgStage = .emit ∧ s.ivlCnt = 0 ∧
      t.rDuration = toWord (wholeDuration s.params s.frame s.seqPhase) ∧
      (t.rptState = .repeating ↔ s.cmdOp = 0x05 ∧ s.autoRpt = true))

/-! ## Whole commands and sessions -/

/-- `SEND_BYTES`, `SEND` without auto-repeat and a valid `SEND_RAW`, issued in a quiescent block: `BUSY` from the issue
until the frame's duration has passed, and then the whole state, with the 67 intervals of the frame on TRACE
(R156, R157, R180, R185). -/
def Obligations.FullFrameCommandRuns : Prop :=
  ∀ (i : Instr) (F : Word) (s : State), fullFrameOf i = some F → startsSession i = false → Inv s → Quiescent s →
    AboutToIssue i s →
      (∀ k, 1 ≤ k → k ≤ frameDuration s.params F → ∃ t, run k s = .next t ∧ t.busy = true ∧ t.rptState = .idle) ∧
      run (frameDuration s.params F + 1) s = .next { s with
        cmdOp := i.opcode, cmdArg := i.operand, autoRpt := false, frame := F
        rDuration := toWord (frameDuration s.params F), seqPhase := .idle, bitIdx := 31, ivlCnt := 0
        durAcc := toWord (frameDuration s.params F), seqOwner := .fg, busy := false, fgStage := .idle
        carrierValue := 0, now := s.now + frameDuration s.params F + 1
        trace := s.trace ++ intervalsTrace (onValue s) s.now (frameIntervals s.params F), inputs := [] }

/-- `SEND` with auto-repeat, issued in a quiescent block: when its frame has gone out `BUSY` is 0 and the session is on,
with what is left of one period after the frame and the tick (R180, R182, R183). -/
def Obligations.SendWithRepeatRuns : Prop :=
  ∀ (a : Half) (c : Byte) (s : State), Inv s → Quiescent s → AboutToIssue (.send a c true) s →
    (∀ k, 1 ≤ k → k ≤ frameDuration s.params (encodeRaw a c) → ∃ t, run k s = .next t ∧ t.busy = true) ∧
    run (frameDuration s.params (encodeRaw a c) + 1) s = .next { s with
      cmdOp := 0x05, cmdArg := (Instr.send a c true).operand, autoRpt := true, frame := encodeRaw a c
      rDuration := toWord (frameDuration s.params (encodeRaw a c)), seqPhase := .idle, bitIdx := 31, ivlCnt := 0
      durAcc := toWord (frameDuration s.params (encodeRaw a c)), seqOwner := .fg, busy := false, fgStage := .idle
      rptState := .repeating
      rptWait := toWord (s.params.repeatPeriod - frameDuration s.params (encodeRaw a c) - 1)
      carrierValue := 0, now := s.now + frameDuration s.params (encodeRaw a c) + 1
      trace := s.trace ++ intervalsTrace (onValue s) s.now (frameIntervals s.params (encodeRaw a c)), inputs := [] }

/-- `SEND_REPEAT_FRAME`, issued in a quiescent block: `BUSY` while the three intervals go out, then the whole state;
`FRAME` is neither read nor written (R158). -/
def Obligations.RepeatFrameCommandRuns : Prop :=
  ∀ s : State, Inv s → Quiescent s → AboutToIssue .sendRepeatFrame s →
    (∀ k, 1 ≤ k → k ≤ s.params.repeatDuration → ∃ t, run k s = .next t ∧ t.busy = true) ∧
    run (s.params.repeatDuration + 1) s = .next { s with
      cmdOp := 0x04, cmdArg := 0, autoRpt := false, rDuration := toWord s.params.repeatDuration, seqPhase := .idle
      bitIdx := 0, ivlCnt := 0, durAcc := toWord s.params.repeatDuration, seqOwner := .fg, busy := false
      fgStage := .idle, carrierValue := 0, now := s.now + s.params.repeatDuration + 1
      trace := s.trace ++ intervalsTrace (onValue s) s.now (repeatIntervals s.params), inputs := [] }

/-- The cadence: a session left alone emits one repeat frame per period, each a period after the one before, for as many
periods as one likes (R203, R204, R217, R298). -/
def Obligations.SessionKeepsCadence : Prop :=
  ∀ (s : State) (n : Nat), Inv s → s.rptState = .repeating → s.seqPhase = .idle → s.inputs = [] →
    s.params.repeatDuration < s.params.repeatPeriod →
      run (s.rptWait.toNat + n * s.params.repeatPeriod) s = .next { s with
        rptWait := 0, now := s.now + s.rptWait.toNat + n * s.params.repeatPeriod
        trace := s.trace ++ (List.range n).flatMap fun j =>
          intervalsTrace (onValue s) (s.now + s.rptWait.toNat + j * s.params.repeatPeriod) (repeatIntervals s.params)
        bitIdx := if n = 0 then s.bitIdx else 0, ivlCnt := if n = 0 then s.ivlCnt else 0
        durAcc := if n = 0 then s.durAcc else toWord s.params.repeatDuration
        seqOwner := if n = 0 then s.seqOwner else .bg }

/-- `STOP_REPEAT` issued while the background waits: after the drawn latency, within its bound, the session is gone,
`BUSY` has fallen and nothing was emitted, though the cadence wait ran out at that very instant
(R205, R207, R208, R214, R252; for `draws` see log 3). -/
def Obligations.StopEndsWaitingSession : Prop :=
  ∀ s : State, Inv s → s.rptState = .repeating → s.seqPhase = .idle → AboutToIssue .stopRepeat s →
    ∃ delta ≤ s.params.cancelLatencyMax,
      (∀ k, 1 ≤ k → k ≤ delta → ∃ t, run k s = .next t ∧ t.busy = true ∧ t.trace = s.trace) ∧
      run (delta + 1) s = .next { s with
        cmdOp := 0x07, cmdArg := 0, autoRpt := false, busy := false, fgStage := .idle, rptState := .idle
        rptWait := 0, cancelLat := 0, draws := s.draws + 1, now := s.now + delta + 1, inputs := [] }

/-- A join ends, and exactly when: at the end of the background frame in progress, or else when the latency has run out.
Whatever else the host does but reset, the state is STOPPING and `BUSY` is 1 until then, and IDLE with the join left
after (R76, R206, R207, R211, R214). That no latency follows a frame is 92_eei_decisions D12, to which the model keeps
where the spec's other files let a draw follow it (log 9). -/
def Obligations.JoinEndsOnTime : Prop :=
  ∀ s : State, Inv s → s.rptState = .stopping → NoReset s →
    (∀ k, k ≤ (if bgEmitting s then frameTicksLeft s else s.cancelLat.toNat) →
      ∃ t, run k s = .next t ∧ t.rptState = .stopping ∧ t.busy = true) ∧
    ∃ t, run ((if bgEmitting s then frameTicksLeft s else s.cancelLat.toNat) + 1) s = .next t ∧
      t.rptState = .idle ∧ t.fgStage ≠ .join

/-- Every command completes: whatever else the host does but reset, `BUSY` falls within one repeat frame, the latency
bound and the longest frame (R76, R299, R305). -/
def Obligations.BusyFallsInTime : Prop :=
  ∀ s : State, Inv s → s.busy = true → NoReset s →
    ∃ k t, k ≤ s.params.repeatDuration + s.params.cancelLatencyMax + max s.params.durMax s.params.repeatDuration + 1 ∧
      run k s = .next t ∧ t.busy = false

/-! ## Companions of the statements above -/

/-- A mark writes TRACE exactly twice: every instant without reset adds a 0 where a mark ends at it, then `ON_VALUE` of
the duty in force where a mark starts at it, and nothing else (R150, R151, R13). -/
def Obligations.MarkWritesTraceTwice : Prop :=
  ∀ s t : State, Inv s → inputNow s ≠ some .reset → step s = .next t → t.trace = s.trace ++ markWrites s t

/-- R42 point 5 as it is written holds after every step but one in which the duty changes inside a mark: in such a step
the mark keeps its value (R42, R150, R231). -/
def Obligations.CarrierFollowsOnValue : Prop :=
  ∀ s t : State, Inv s → step s = .next t →
    (isMark s.seqPhase = true → s.ivlCnt ≠ 0 → t.duty = s.duty → CarrierIsOnValue s → CarrierIsOnValue t ∧ CarrierExactlyInMarks t) ∧
    (¬(isMark s.seqPhase = true ∧ s.ivlCnt ≠ 0) → CarrierIsOnValue t ∧ CarrierExactlyInMarks t) ∧
    (isMark s.seqPhase = true → s.ivlCnt ≠ 0 → inputNow s ≠ some .reset → t.carrierValue = s.carrierValue)

/-- `STOP_REPEAT` with no session is a no-op: the step of its issue leaves `BUSY` 0, TRACE and every register as they
were, but for the issue latches (R208, R205, R212). -/
def Obligations.StopWhenIdleIsNoOp : Prop :=
  ∀ s : State, Inv s → s.rptState = .idle → Issues s .stopRepeat →
    step s = .next { (takeInput s).2 with cmdOp := 0x07, cmdArg := 0, autoRpt := false, now := s.now + 1 }

/-- `STOP_REPEAT` issued inside a background repeat frame: the frame runs to its end, and at that instant the session is
gone, `BUSY` has fallen, no other frame was started and no latency was drawn (R206, R207, R208, R214, R217 with the
latency 0 of 92_eei_decisions D12, log 9). -/
def Obligations.StopInsideRepeatFrame : Prop :=
  ∀ s : State, Inv s → s.rptState = .repeating → bgEmitting s = true → AboutToIssue .stopRepeat s →
    (∀ k, 1 ≤ k → k ≤ frameTicksLeft s →
      ∃ t, run k s = .next t ∧ t.busy = true ∧ t.rptState = .stopping ∧ bgEmitting t = true) ∧
    ∃ t, run (frameTicksLeft s + 1) s = .next t ∧ t.now = s.now + frameTicksLeft s + 1 ∧ t.busy = false ∧
      t.fgStage = .idle ∧ t.rptState = .idle ∧ t.rptWait = 0 ∧ t.cancelLat = 0 ∧ t.draws = s.draws ∧
      t.seqPhase = .idle ∧ t.carrierValue = 0 ∧ t.rDuration = s.rDuration ∧ t.frame = s.frame ∧
      t.durAcc = toWord s.params.repeatDuration
end

