-- ==== Sys2Proof/Tests/Slice0.lean ====
section
/-! SUPPORT. Small tests with expected values from 95_test_vectors and the rules, the refusals of ill-formed words, and
for each statement with hypotheses a concrete state and operands that meet them. -/

namespace Sys2Proof.Tests

open Sys2Proof.Machine Sys2Proof.Safety

/-! ## Ill-formed words (95_test_vectors section 2.2, 30_encoding R95) -/

theorem test_opcode_zero_refused :
    wordWellFormed 0x0000000000 = false ∧ decode 0x0000000000 = .error (.unassignedOpcode 0x00) := by decide

theorem test_opcode_nine_refused :
    wordWellFormed 0x0900000000 = false ∧ decode 0x0900000000 = .error (.unassignedOpcode 0x09) := by decide

theorem test_opcode_last_refused :
    wordWellFormed 0xFF00000000 = false ∧ decode 0xFF00000000 = .error (.unassignedOpcode 0xFF) := by decide

theorem test_encode_raw_reserved_refused :
    wordWellFormed 0x0201400004 = false ∧ decode 0x0201400004 = .error (.reservedOperandBits 0x02) := by decide

theorem test_send_repeat_frame_reserved_refused :
    wordWellFormed 0x0400000001 = false ∧ decode 0x0400000001 = .error (.reservedOperandBits 0x04) := by decide

theorem test_send_reserved_refused :
    wordWellFormed 0x0502000000 = false ∧ decode 0x0502000000 = .error (.reservedOperandBits 0x05) := by decide

theorem test_stop_repeat_reserved_refused :
    wordWellFormed 0x0700000001 = false ∧ decode 0x0700000001 = .error (.reservedOperandBits 0x07) := by decide

theorem test_configure_reserved_refused :
    wordWellFormed 0x0800000100 = false ∧ decode 0x0800000100 = .error (.reservedOperandBits 0x08) := by decide

/-! ## Decoding of words written out from R91 and R93, one for each opcode -/

theorem test_decode_decodeRaw : decode 0x01BF41FB04 = .ok (.decodeRaw 0xBF41FB04) := by decide

theorem test_decode_encodeRaw : decode 0x0200561234 = .ok (.encodeRaw 0x1234 0x56) := by decide

theorem test_decode_sendBytes : decode 0x0312345678 = .ok (.sendBytes 0x78 0x56 0x34 0x12) := by decide

theorem test_decode_sendRepeatFrame : decode 0x0400000000 = .ok .sendRepeatFrame := by decide

theorem test_decode_send : decode 0x0501FE1234 = .ok (.send 0x1234 0xFE true) := by decide

theorem test_decode_sendRaw : decode 0x06FF0000FF = .ok (.sendRaw 0xFF0000FF) := by decide

theorem test_decode_stopRepeat : decode 0x0700000000 = .ok .stopRepeat := by decide

theorem test_decode_configure : decode 0x0800000065 = .ok (.configure 101) := by decide

theorem test_encode_words :
    encode (.send 0x0100 0x00 true) = 0x0501000100 ∧ encode (.sendBytes 0x78 0x56 0x34 0x12) = 0x0312345678 ∧
      encode (.encodeRaw 0x1234 0x56) = 0x0200561234 ∧ encode (.configure 50) = 0x0800000032 := by decide

theorem test_decodeTableWord :
    decodeTableWord 40 0x0501400004 = some (.send 0x0004 0x40 true) ∧ decodeTableWord 40 0x0900000000 = none := by
  decide

/-! ## One step of each command, placed after reset (95_test_vectors sections 2.1 to 2.6) -/

/-- What the host register `idx` reads after the step that runs the word `w` placed after reset. -/
def readAfter (w idx : Nat) : Option Word :=
  match step (State.reset.withFetchWord 40 w) with
  | .next t => some (hostRead idx t)
  | .fault _ => none
  | .refused _ => none

/-- TRACE after the step that runs the word `w` placed after reset. -/
def traceAfter (w : Nat) : Option (List (Nat × Nat)) :=
  match step (State.reset.withFetchWord 40 w) with
  | .next t => some t.trace
  | .fault _ => none
  | .refused _ => none

theorem test_decodeRaw_valid_extended : readAfter 0x01BF40FB05 5 = some 0x0140FB05 := by decide

theorem test_decodeRaw_invalid : readAfter 0x0112345678 5 = some 0x00345678 := by decide

theorem test_encodeRaw_collision : readAfter 0x020034ED12 4 = some 0xCB34ED12 := by decide

theorem test_encodeRaw_extended : readAfter 0x0200561234 4 = some 0xA9561234 := by decide

theorem test_sendBytes_starts :
    readAfter 0x0312345678 2 = some 0x00000089 ∧ traceAfter 0x0312345678 = some [(0, 330)] := by decide

theorem test_sendRepeatFrame_starts :
    readAfter 0x0400000000 2 = some 0x00000309 ∧ traceAfter 0x0400000000 = some [(0, 330)] := by decide

theorem test_send_starts :
    readAfter 0x0500400004 2 = some 0x00000089 ∧ traceAfter 0x0500400004 = some [(0, 330)] := by decide

theorem test_sendRaw_starts : readAfter 0x06FF000012 2 = some 0x00000089 := by decide

theorem test_sendRaw_invalid_does_nothing :
    readAfter 0x0612345678 2 = some 0 ∧ traceAfter 0x0612345678 = some [] ∧ readAfter 0x0612345678 1 = some 6 := by
  decide

theorem test_stopRepeat_idle : readAfter 0x0700000000 2 = some 0 ∧ readAfter 0x0700000000 1 = some 7 := by decide

theorem test_configure_legal : readAfter 0x0800000032 6 = some 0x32 := by decide

theorem test_configure_falls_back : readAfter 0x0800000065 6 = some 0x21 := by decide

theorem test_illegal_word_flagged :
    readAfter 0x0900000000 2 = some 0x10 ∧ readAfter 0x0900000000 1 = some 9 ∧
      readAfter 0x0201400004 2 = some 0x10 ∧ readAfter 0x0201400004 4 = some 0 := by decide

/-! ## Durations (95_test_vectors sections 1.1, 2.3) -/

theorem test_frame_durations :
    frameDuration Params.defaults 0xFF00FF00 = 68062500 ∧ frameDuration Params.defaults 0xFF000100 = 60187500 ∧
      frameDuration Params.defaults 0x00000000 = 50062500 ∧ Params.defaults.durMax = 86062500 ∧
        Params.defaults.repeatDuration = 11812500 := by decide

theorem test_defaults_valid : Params.defaults.Valid := by decide

/-! ## Small concrete states -/

/-- A legal parameter set with short durations and a latency bound `m`. -/
def small (m : Nat) : Params where
  unit := 1
  leadMark := 4
  leadSpace := 3
  bitMark := 2
  bit0Space := 1
  bit1Space := 3
  trailMark := 2
  repeatSpace := 2
  repeatPeriod := 200
  modFreq := 38000
  tTick := 1
  top := 1000
  wTop := 32
  cancelLatencyMax := m

/-- A quiescent block, `CMD_ARG` holding `arg`, and the inputs to come. -/
def quiet (arg : Word) (l : List Input) : State :=
  { State.reset with params := small 0, cmdArgReg := arg, now := 300, inputs := l }

/-- FG sending the frame of `SEND 0x0004, 0x40, 1`, at phase `ph`, bit `i`, with `n` ticks left of the interval. -/
def sending (ph : Phase) (i : BitVec 5) (n : Word) (l : List Input) : State :=
  { quiet 0x01400004 l with
    cmdOp := 0x05, cmdArg := 0x01400004, autoRpt := true, frame := 0xBF40FB04, seqPhase := ph, bitIdx := i
    ivlCnt := n, durAcc := toWord (startedDuration (small 0) 0xBF40FB04 ph i), busy := true, fgStage := .emit
    carrierValue := if isMark ph then 330 else 0, trace := if isMark ph then [(290, 330)] else [] }

/-- BG waiting, `w` ticks before the next repeat frame, with the latency bound `m`. -/
def waiting (m : Nat) (w arg : Word) (l : List Input) : State :=
  { quiet arg l with
    params := small m, cmdOp := 0x05, cmdArg := 0x01400004, autoRpt := true, frame := 0xBF40FB04
    rptState := .repeating, rptWait := w }

/-- BG in the lead mark of a repeat frame, `n` ticks left of it. -/
def repeating (n arg : Word) (l : List Input) : State :=
  { waiting 0 0 arg l with
    seqPhase := .rptLeadMark, ivlCnt := n, durAcc := 4, seqOwner := .bg, carrierValue := 330
    trace := [(290, 330)] }

/-- `STOP_REPEAT` in its join, BG waiting, `n` ticks of the latency left. -/
def stopping (n : Word) (l : List Input) : State :=
  { waiting 2 7 0 l with
    cmdOp := 0x07, cmdArg := 0, autoRpt := false, busy := true, fgStage := .join, rptState := .stopping
    cancelLat := n }

/-- `STOP_REPEAT` in its join, BG in the lead mark of a repeat frame, `n` ticks left of it. -/
def stoppingInFrame (n : Word) (l : List Input) : State :=
  { repeating n 0 l with
    cmdOp := 0x07, cmdArg := 0, autoRpt := false, busy := true, fgStage := .join, rptState := .stopping }

/-! ## The invariant holds of them -/

/-- The invariant reads neither `CMD_ARG` nor the schedule. -/
theorem inv_with {s : State} (h : Inv s) (arg : Word) (l : List Input) :
    Inv { s with cmdArgReg := arg, inputs := l } :=
  ⟨h.params, h.guarantees, h.busy, h.latched, h.frame, h.counters, h.latency, h.carrier⟩

theorem inv_quiet (arg : Word) (l : List Input) : Inv (quiet arg l) :=
  inv_with (s := quiet 0 [])
    ⟨by decide, by decide, by decide, by decide, by decide, by decide, by decide, by decide⟩ arg l

theorem inv_sending_lead (l : List Input) : Inv (sending .leadMark 0 3 l) :=
  inv_with (s := sending .leadMark 0 3 [])
    ⟨by decide, by decide, by decide, by decide, by decide, by decide, by decide, by decide⟩ _ l

theorem inv_sending_lead_over (l : List Input) : Inv (sending .leadMark 0 0 l) :=
  inv_with (s := sending .leadMark 0 0 [])
    ⟨by decide, by decide, by decide, by decide, by decide, by decide, by decide, by decide⟩ _ l

theorem inv_sending_trail_over (l : List Input) : Inv (sending .trailMark 31 0 l) :=
  inv_with (s := sending .trailMark 31 0 [])
    ⟨by decide, by decide, by decide, by decide, by decide, by decide, by decide, by decide⟩ _ l

theorem inv_waiting (arg : Word) (l : List Input) : Inv (waiting 0 0 arg l) :=
  inv_with (s := waiting 0 0 0 [])
    ⟨by decide, by decide, by decide, by decide, by decide, by decide, by decide, by decide⟩ arg l

theorem inv_waiting_bound (arg : Word) (l : List Input) : Inv (waiting 2 5 arg l) :=
  inv_with (s := waiting 2 5 0 [])
    ⟨by decide, by decide, by decide, by decide, by decide, by decide, by decide, by decide⟩ arg l

theorem inv_repeating (arg : Word) (l : List Input) : Inv (repeating 2 arg l) :=
  inv_with (s := repeating 2 0 [])
    ⟨by decide, by decide, by decide, by decide, by decide, by decide, by decide, by decide⟩ arg l

theorem inv_stopping (l : List Input) : Inv (stopping 2 l) :=
  inv_with (s := stopping 2 [])
    ⟨by decide, by decide, by decide, by decide, by decide, by decide, by decide, by decide⟩ _ l

theorem inv_stopping_over (l : List Input) : Inv (stopping 0 l) :=
  inv_with (s := stopping 0 [])
    ⟨by decide, by decide, by decide, by decide, by decide, by decide, by decide, by decide⟩ _ l

theorem inv_stopping_in_frame (l : List Input) : Inv (stoppingInFrame 2 l) :=
  inv_with (s := stoppingInFrame 2 [])
    ⟨by decide, by decide, by decide, by decide, by decide, by decide, by decide, by decide⟩ _ l

/-! ## What meets the hypotheses of each statement -/

/-- The state after the step at `s`, `s` itself where the step stops. -/
def after (s : State) : State :=
  match step s with
  | .next t => t
  | .fault _ => s
  | .refused _ => s

theorem witness_EncodeDecodeGivesBack : decode 0x0501400004 = .ok (.send 0x0004 0x40 true) := by decide

theorem witness_DecoderFollowsOpcodeTable :
    decode 0x0800000032 = .ok (.configure 50) ∧ (⟨"CONFIGURE", 0x08, 0x0800000000, 0xFFFFFFFF00⟩ : OpcodeRow) ∈ opcodeTable ∧
      (⟨"CONFIGURE", 0x08, 0x0800000000, 0xFFFFFFFF00⟩ : OpcodeRow).selects 0x0800000032 = true := by decide

theorem witness_AddressDecomposition : (decomp 0x00FF).2 = 0 := by decide

theorem witness_AddressRoundTripAndCollapse :
    ((0x00FF : Half).toNat ≤ 0xFF ∧ not8 ((0x0100 : Half).extractLsb' 0 8) ≠ (0x0100 : Half).extractLsb' 8 8) ∧
      (0x100 ≤ (0x01FE : Half).toNat ∧ (0x01FE : Half).extractLsb' 8 8 = not8 ((0x01FE : Half).extractLsb' 0 8)) ∧
        ¬((0x01 : Byte) = 0x00 ∧ (0xFE : Byte) ≠ 0xFF) ∧ (0xFE : Byte) ≠ 0xFF := by decide

theorem witness_CodecProperties :
    (0x00FF : Half).toNat ≤ 0xFF ∧
      (0x100 ≤ (0x0100 : Half).toNat ∧ (0x0100 : Half).extractLsb' 8 8 ≠ not8 ((0x0100 : Half).extractLsb' 0 8)) ∧
      (0x100 ≤ (0x01FE : Half).toNat ∧ (0x01FE : Half).extractLsb' 8 8 = not8 ((0x01FE : Half).extractLsb' 0 8)) ∧
      byte2 (0xBF41FB04 : Word) ≠ not8 (byte3 0xBF41FB04) ∧
      ((decodeRaw 0xFF000100).valid = true ∧ ¬(byte1 (0xFF000100 : Word) = 0x00 ∧ byte0 (0xFF000100 : Word) ≠ 0xFF)) ∧
      ((decodeRaw 0xFF000012).valid = true ∧ byte1 (0xFF000012 : Word) = 0x00 ∧ byte0 (0xFF000012 : Word) ≠ 0xFF) := by
  decide

theorem witness_SendFrameOneBits : (0x00FF : Half).toNat ≤ 0xFF ∧ 0x100 ≤ (0x0100 : Half).toNat := by decide

theorem witness_SendRawFrameMayDiffer : (decodeRaw 0xFF000012).valid = true ∧ (decodeRaw 0xFF0000FF).valid = true := by
  decide

theorem witness_JoiningCommandsIssue :
    (∃ l h c v, Instr.sendBytes 0x78 0x56 0x34 0x12 = .sendBytes l h c v ∧ (0x12345678 : Word) = v ++ c ++ h ++ l) ∧
      (∃ a c r, Instr.send 0x0004 0x40 true = .send a c r ∧
        (0x01400004 : Word) = (0 : BitVec 7) ++ BitVec.ofBool r ++ c ++ a) :=
  ⟨⟨0x78, 0x56, 0x34, 0x12, rfl, by decide⟩, ⟨0x0004, 0x40, true, rfl, by decide⟩⟩

theorem witness_SendRawIssue :
    (0xBF40FB04 : Word).extractLsb' 16 8 = ~~~((0xBF40FB04 : Word).extractLsb' 24 8) ∧
      (0x12345678 : Word).extractLsb' 16 8 ≠ ~~~((0x12345678 : Word).extractLsb' 24 8) := by decide

theorem witness_HostReads :
    inputNow (sending .leadMark 0 3 [⟨0, .read 2⟩]) = some (.read 2) ∧
      finishInstant (takeInput (sending .leadMark 0 3 [⟨0, .read 2⟩])).2 = .next (after (sending .leadMark 0 3 [])) :=
  ⟨by decide, rfl⟩

theorem witness_ReservedIndices : 7 ≤ 7 := by decide

theorem witness_HostWrites :
    (quiet 0 []).busy = false ∧ (sending .leadMark 0 3 []).busy = true ∧
      inputNow (sending .leadMark 0 3 [⟨0, .write 3 5⟩]) = some (.write 3 5) := by decide

theorem witness_IllegalWordRaisesIll :
    ((quiet 1 []).busy = false ∧ wordWellFormed ((0x07 : Word).extractLsb' 0 8 ++ (quiet 1 []).cmdArgReg) = false) ∧
      step { quiet 0 [⟨0, .write 2 0x10⟩] with ill := true } =
        .next (after { quiet 0 [⟨0, .write 2 0x10⟩] with ill := true }) ∧
      (after { quiet 0 [⟨0, .write 2 0x10⟩] with ill := true }).ill = false :=
  ⟨by decide, rfl, by decide⟩

theorem witness_OverrunOnlySetsOvr :
    ((sending .leadMark 0 3 [⟨0, .write 1 7⟩]).busy = true ∧
      inputNow (sending .leadMark 0 3 [⟨0, .write 1 7⟩]) = some (.write 1 7) ∧
      finishInstant (takeInput (sending .leadMark 0 3 [⟨0, .write 1 7⟩])).2 =
        .next (after (sending .leadMark 0 3 []))) ∧
      step { quiet 0 [⟨0, .write 2 0x20⟩] with ovr := true } =
        .next (after { quiet 0 [⟨0, .write 2 0x20⟩] with ovr := true }) ∧
      (after { quiet 0 [⟨0, .write 2 0x20⟩] with ovr := true }).ovr = false :=
  ⟨⟨by decide, by decide, rfl⟩, rfl, by decide⟩

/-- Each clause's register changes at a step. -/
theorem witness_ResultsOnlyByTheirCommands :
    (step (quiet 0x00400004 [⟨0, .write 1 2⟩]) = .next (after (quiet 0x00400004 [⟨0, .write 1 2⟩])) ∧
      inputNow (quiet 0x00400004 [⟨0, .write 1 2⟩]) ≠ some .reset ∧
      (after (quiet 0x00400004 [⟨0, .write 1 2⟩])).rCode = 0xBF40FB04) ∧
    (step (quiet 0xBF40FB05 [⟨0, .write 1 1⟩]) = .next (after (quiet 0xBF40FB05 [⟨0, .write 1 1⟩])) ∧
      (after (quiet 0xBF40FB05 [⟨0, .write 1 1⟩])).rDecode = 0x0140FB05) ∧
    (step (quiet 100 [⟨0, .write 1 8⟩]) = .next (after (quiet 100 [⟨0, .write 1 8⟩])) ∧
      (after (quiet 100 [⟨0, .write 1 8⟩])).duty = 100) ∧
    (step (quiet 0 [⟨0, .write 0 9⟩]) = .next (after (quiet 0 [⟨0, .write 0 9⟩])) ∧
      (after (quiet 0 [⟨0, .write 0 9⟩])).cmdArgReg = 9) :=
  ⟨⟨rfl, by decide, by decide⟩, ⟨rfl, by decide⟩, ⟨rfl, by decide⟩, rfl, by decide⟩

theorem witness_StepRunsDecodedCommand :
    (quiet 0x01400004 [⟨0, .write 1 5⟩]).busy = false ∧
      (quiet 0x01400004 [⟨0, .write 1 5⟩]).inputs = ⟨0, .write 1 5⟩ :: [] ∧
      decode (cmdWord (byte0 5) (quiet 0x01400004 [⟨0, .write 1 5⟩]).cmdArgReg) = .ok (.send 0x0004 0x40 true) := by
  decide

theorem witness_PlacedWordIsRun :
    State.reset.busy = false ∧ decodeTableWord 40 0x0501400004 = some (.send 0x0004 0x40 true) := by decide

theorem witness_valid_params : (quiet 0 []).params.Valid ∧ (waiting 2 5 0 []).params.Valid := by decide

theorem witness_TransitionsExcludeEachOther :
    (SingleWriter (sending .leadMark 0 0 []) ∧ EmitIsForeground (sending .leadMark 0 0 []) ∧
      intervalEndEnabled (sending .leadMark 0 0 []) = true) ∧
    (SingleWriter (stopping 0 []) ∧ EmitIsForeground (stopping 0 []) ∧ bgStopEnabled (stopping 0 []) = true) ∧
    (SingleWriter (bgStop (stopping 0 [])) ∧ EmitIsForeground (bgStop (stopping 0 [])) ∧
      fgJoinDoneEnabled (bgStop (stopping 0 [])) = true) :=
  ⟨⟨by decide, by decide, by decide⟩, ⟨by decide, by decide, by decide⟩, by decide, by decide, by decide⟩

theorem witness_ParametersConstant : step (quiet 0 []) = .next (after (quiet 0 [])) := rfl

theorem witness_ResetInputRestarts :
    (sending .leadMark 0 3 [⟨0, .reset⟩]).inputs = ⟨0, .reset⟩ :: [] := rfl

theorem witness_InvariantAfterReset : (small 0).Valid ∧ Params.defaults.Valid := by decide

/-- The end of a `SEND` frame that starts a session, at the step's last tick. -/
theorem witness_StepKeepsInvariant :
    Inv (sending .trailMark 31 0 []) ∧
      step (sending .trailMark 31 0 []) = .next (after (sending .trailMark 31 0 [])) :=
  ⟨inv_sending_trail_over [], rfl⟩

theorem traceInPairs_sending : TraceInPairs (sending .trailMark 31 0 []) := by
  refine ⟨by decide, ?_⟩
  intro k hk p hp
  match k, hk with
  | 1, _ => simp [sending, isMark] at hp
  | k + 2, _ => simp [sending, isMark] at hp

theorem witness_StepKeepsTrace :
    TraceInOrder (sending .trailMark 31 0 []) ∧ TraceRecordsCarrier (sending .trailMark 31 0 []) ∧
      Inv (sending .trailMark 31 0 []) ∧ TraceInPairs (sending .trailMark 31 0 []) ∧
      step (sending .trailMark 31 0 []) = .next (after (sending .trailMark 31 0 [])) :=
  ⟨by decide, by decide, inv_sending_trail_over [], traceInPairs_sending, rfl⟩

theorem witness_TraceGrowsByThisInstant :
    step (sending .trailMark 31 0 []) = .next (after (sending .trailMark 31 0 [])) ∧
      inputNow (sending .trailMark 31 0 []) ≠ some .reset ∧
      (after (sending .trailMark 31 0 [])).trace = [(290, 330), (300, 0)] :=
  ⟨rfl, by decide, by decide⟩

theorem witness_DutyDecidesNoTiming :
    timingView (sending .trailMark 31 0 []) =
        timingView { sending .trailMark 31 0 [] with duty := 50, carrierValue := 500, trace := [(290, 500)] } ∧
      step (sending .trailMark 31 0 []) = .next (after (sending .trailMark 31 0 [])) :=
  ⟨by decide, rfl⟩

/-- One state for each clause: reset, inside an interval, at its end. -/
theorem witness_IntervalsAreNotCut :
    (Inv (sending .leadMark 0 3 [⟨0, .reset⟩]) ∧ (sending .leadMark 0 3 [⟨0, .reset⟩]).seqPhase ≠ .idle ∧
      step (sending .leadMark 0 3 [⟨0, .reset⟩]) = .next (after (sending .leadMark 0 3 [⟨0, .reset⟩])) ∧
      inputNow (sending .leadMark 0 3 [⟨0, .reset⟩]) = some .reset) ∧
    (Inv (sending .leadMark 0 3 []) ∧ step (sending .leadMark 0 3 []) = .next (after (sending .leadMark 0 3 [])) ∧
      inputNow (sending .leadMark 0 3 []) ≠ some .reset ∧ (sending .leadMark 0 3 []).ivlCnt ≠ 0) ∧
    (Inv (sending .leadMark 0 0 []) ∧ step (sending .leadMark 0 0 []) = .next (after (sending .leadMark 0 0 [])) ∧
      inputNow (sending .leadMark 0 0 []) ≠ some .reset ∧ (sending .leadMark 0 0 []).ivlCnt = 0 ∧
      nextPosition .leadMark 0 = some (.leadSpace, 0)) :=
  ⟨⟨inv_sending_lead _, by decide, rfl, by decide⟩, ⟨inv_sending_lead _, rfl, by decide, by decide⟩,
    inv_sending_lead_over _, rfl, by decide, by decide, rfl⟩

theorem witness_QuiescentBlockRests :
    (Inv (quiet 0 []) ∧ Quiescent (quiet 0 []) ∧ inputNow (quiet 0 []) = none) ∧
      Inv (quiet 0 [⟨0, .read 2⟩]) ∧ Quiescent (quiet 0 [⟨0, .read 2⟩]) ∧
        inputNow (quiet 0 [⟨0, .read 2⟩]) = some (.read 2) :=
  ⟨⟨inv_quiet _ _, by decide, by decide⟩, inv_quiet _ _, by decide, by decide⟩

/-- The cadence wait is over: the step starts a background repeat frame. -/
theorem witness_BackgroundLeavesForeground :
    Inv (waiting 0 0 0 []) ∧ (waiting 0 0 0 []).fgStage = .idle ∧ inputNow (waiting 0 0 0 []) = none ∧
      inputNow (waiting 0 0 0 [⟨0, .read 2⟩]) = some (.read 2) ∧
      step (waiting 0 0 0 []) = .next (after (waiting 0 0 0 [])) ∧
      (after (waiting 0 0 0 [])).seqPhase = .rptLeadMark :=
  ⟨inv_waiting _ _, by decide, by decide, by decide, rfl, by decide⟩

/-- One state for each transition: a session starts, a session is stopped, a join waits on. -/
theorem witness_CoordinatorTransitions :
    (Inv (sending .trailMark 31 0 []) ∧ inputNow (sending .trailMark 31 0 []) ≠ some .reset ∧
      step (sending .trailMark 31 0 []) = .next (after (sending .trailMark 31 0 [])) ∧
      (sending .trailMark 31 0 []).rptState = .idle ∧ (after (sending .trailMark 31 0 [])).rptState = .repeating) ∧
    (Inv (repeating 2 0 [⟨0, .write 1 7⟩]) ∧ inputNow (repeating 2 0 [⟨0, .write 1 7⟩]) ≠ some .reset ∧
      step (repeating 2 0 [⟨0, .write 1 7⟩]) = .next (after (repeating 2 0 [⟨0, .write 1 7⟩])) ∧
      (repeating 2 0 [⟨0, .write 1 7⟩]).rptState = .repeating ∧
      (after (repeating 2 0 [⟨0, .write 1 7⟩])).rptState = .stopping) ∧
    (Inv (stopping 2 []) ∧ step (stopping 2 []) = .next (after (stopping 2 [])) ∧
      (stopping 2 []).rptState = .stopping ∧ (after (stopping 2 [])).rptState = .stopping) :=
  ⟨⟨inv_sending_trail_over _, by decide, rfl, by decide, by decide⟩,
    ⟨inv_repeating _ _, by decide, rfl, by decide, by decide⟩, inv_stopping _, rfl, by decide, by decide⟩

/-- The write of 0x07 with `CMD_ARG` 0 issues `STOP_REPEAT`, which joins. -/
theorem issues_stopRepeat :
    Issues (repeating 2 0 [⟨0, .write 1 7⟩]) .stopRepeat ∧
      joining (Instr.opcode .stopRepeat) (Instr.operand .stopRepeat) = true :=
  ⟨⟨by decide, 7, by decide, by decide⟩, by decide⟩

theorem witness_NoRepeatFrameAfterRequest :
    (Inv (stoppingInFrame 2 []) ∧ step (stoppingInFrame 2 []) = .next (after (stoppingInFrame 2 [])) ∧
      (stoppingInFrame 2 []).rptState = .stopping ∧ bgEmitting (after (stoppingInFrame 2 [])) = true) ∧
    (Inv (repeating 2 0 [⟨0, .write 1 7⟩]) ∧
      step (repeating 2 0 [⟨0, .write 1 7⟩]) = .next (after (repeating 2 0 [⟨0, .write 1 7⟩])) ∧
      bgEmitting (after (repeating 2 0 [⟨0, .write 1 7⟩])) = true) :=
  ⟨⟨inv_stopping_in_frame _, rfl, by decide, by decide⟩, inv_repeating _ _, rfl, by decide⟩

theorem witness_ResultsWhenBusyFalls :
    (Inv (sending .trailMark 31 0 []) ∧ (sending .trailMark 31 0 []).busy = true ∧
      inputNow (sending .trailMark 31 0 []) ≠ some .reset ∧
      step (sending .trailMark 31 0 []) = .next (after (sending .trailMark 31 0 [])) ∧
      (after (sending .trailMark 31 0 [])).busy = false ∧ (sending .trailMark 31 0 []).cmdOp ≠ 0x07) ∧
    (Inv (stopping 0 []) ∧ (stopping 0 []).busy = true ∧ inputNow (stopping 0 []) ≠ some .reset ∧
      step (stopping 0 []) = .next (after (stopping 0 [])) ∧ (after (stopping 0 [])).busy = false ∧
      (stopping 0 []).cmdOp = 0x07) :=
  ⟨⟨inv_sending_trail_over _, by decide, by decide, rfl, by decide, by decide⟩,
    inv_stopping_over _, by decide, by decide, rfl, by decide, by decide⟩

theorem witness_FullFrameCommandRuns :
    fullFrameOf (.sendRaw 0xFF000012) = some 0xFF00ED12 ∧ startsSession (.sendRaw 0xFF000012) = false ∧
      Inv (quiet 0xFF000012 [⟨0, .write 1 6⟩]) ∧ Quiescent (quiet 0xFF000012 [⟨0, .write 1 6⟩]) ∧
      AboutToIssue (.sendRaw 0xFF000012) (quiet 0xFF000012 [⟨0, .write 1 6⟩]) ∧
      1 ≤ frameDuration (small 0) 0xFF00ED12 :=
  ⟨by decide, by decide, inv_quiet _ _, by decide, by decide, by decide⟩

theorem witness_SendWithRepeatRuns :
    Inv (quiet 0x01400004 [⟨0, .write 1 5⟩]) ∧ Quiescent (quiet 0x01400004 [⟨0, .write 1 5⟩]) ∧
      AboutToIssue (.send 0x0004 0x40 true) (quiet 0x01400004 [⟨0, .write 1 5⟩]) ∧
      1 ≤ frameDuration (small 0) (encodeRaw 0x0004 0x40) :=
  ⟨inv_quiet _ _, by decide, by decide, by decide⟩

theorem witness_RepeatFrameCommandRuns :
    Inv (quiet 0 [⟨0, .write 1 4⟩]) ∧ Quiescent (quiet 0 [⟨0, .write 1 4⟩]) ∧
      AboutToIssue .sendRepeatFrame (quiet 0 [⟨0, .write 1 4⟩]) ∧ 1 ≤ (small 0).repeatDuration :=
  ⟨inv_quiet _ _, by decide, by decide, by decide⟩

theorem witness_SessionKeepsCadence :
    Inv (waiting 2 5 0 []) ∧ (waiting 2 5 0 []).rptState = .repeating ∧ (waiting 2 5 0 []).seqPhase = .idle ∧
      (waiting 2 5 0 []).inputs = [] ∧
      (waiting 2 5 0 []).params.repeatDuration < (waiting 2 5 0 []).params.repeatPeriod :=
  ⟨inv_waiting_bound _ _, by decide, by decide, by decide, by decide⟩

theorem witness_StopEndsWaitingSession :
    Inv (waiting 2 5 0 [⟨0, .write 1 7⟩]) ∧ (waiting 2 5 0 [⟨0, .write 1 7⟩]).rptState = .repeating ∧
      (waiting 2 5 0 [⟨0, .write 1 7⟩]).seqPhase = .idle ∧
      AboutToIssue .stopRepeat (waiting 2 5 0 [⟨0, .write 1 7⟩]) :=
  ⟨inv_waiting_bound _ _, by decide, by decide, by decide⟩

/-- With BG waiting and with BG inside a frame. -/
theorem witness_JoinEndsOnTime :
    (Inv (stopping 2 [⟨0, .read 2⟩]) ∧ (stopping 2 [⟨0, .read 2⟩]).rptState = .stopping ∧
      NoReset (stopping 2 [⟨0, .read 2⟩])) ∧
    (Inv (stoppingInFrame 2 []) ∧ (stoppingInFrame 2 []).rptState = .stopping ∧ NoReset (stoppingInFrame 2 []) ∧
      bgEmitting (stoppingInFrame 2 []) = true ∧ frameTicksLeft (stoppingInFrame 2 []) = 6) :=
  ⟨⟨inv_stopping _, by decide, by decide⟩, inv_stopping_in_frame _, by decide, by decide, by decide, by decide⟩

theorem witness_BusyFallsInTime :
    Inv (sending .leadMark 0 3 [⟨1, .write 1 7⟩]) ∧ (sending .leadMark 0 3 [⟨1, .write 1 7⟩]).busy = true ∧
      NoReset (sending .leadMark 0 3 [⟨1, .write 1 7⟩]) :=
  ⟨inv_sending_lead _, by decide, by decide⟩

theorem witness_MarkWritesTraceTwice :
    Inv (sending .trailMark 31 0 []) ∧ inputNow (sending .trailMark 31 0 []) ≠ some .reset ∧
      step (sending .trailMark 31 0 []) = .next (after (sending .trailMark 31 0 [])) ∧
      markWrites (sending .trailMark 31 0 []) (after (sending .trailMark 31 0 [])) = [(300, 0)] ∧
      markWrites (waiting 0 0 0 []) (after (waiting 0 0 0 [])) = [(300, 330)] :=
  ⟨inv_sending_trail_over _, by decide, rfl, by decide, by decide⟩

/-- Inside a mark, and at the end of one. -/
theorem witness_CarrierFollowsOnValue :
    (Inv (sending .leadMark 0 3 []) ∧ step (sending .leadMark 0 3 []) = .next (after (sending .leadMark 0 3 [])) ∧
      isMark (sending .leadMark 0 3 []).seqPhase = true ∧ (sending .leadMark 0 3 []).ivlCnt ≠ 0 ∧
      (after (sending .leadMark 0 3 [])).duty = (sending .leadMark 0 3 []).duty ∧
      CarrierIsOnValue (sending .leadMark 0 3 []) ∧ inputNow (sending .leadMark 0 3 []) ≠ some .reset) ∧
    (Inv (waiting 0 0 0 []) ∧ step (waiting 0 0 0 []) = .next (after (waiting 0 0 0 [])) ∧
      ¬(isMark (waiting 0 0 0 []).seqPhase = true ∧ (waiting 0 0 0 []).ivlCnt ≠ 0) ∧
      isMark (after (waiting 0 0 0 [])).seqPhase = true) :=
  ⟨⟨inv_sending_lead _, rfl, by decide, by decide, by decide, by decide, by decide⟩,
    inv_waiting _ _, rfl, by decide, by decide⟩

/-- BG in a lead mark that a duty of 33 and a `TOP` of 2 left at 0, with `CONFIGURE 50` as the next access. -/
def darkMark : State :=
  { repeating 2 50 [⟨0, .write 1 8⟩] with
    params := { small 0 with top := 2 }, carrierValue := 0, trace := [(290, 0)] }

/-- R42 point 5 as it is written fails after that `CONFIGURE`: `ON_VALUE` has become 1 and the mark stays at 0, since
`DUTY` is sampled where a mark starts (R150; 44_config_status R231; log 10). -/
theorem test_configure_in_background_mark :
    CarrierExactlyInMarks darkMark ∧ onValue (after darkMark) = 1 ∧ isMark (after darkMark).seqPhase = true ∧
      (after darkMark).carrierValue = 0 := by decide

theorem witness_StopWhenIdleIsNoOp :
    Inv (quiet 0 [⟨0, .write 1 7⟩]) ∧ (quiet 0 [⟨0, .write 1 7⟩]).rptState = .idle ∧
      Issues (quiet 0 [⟨0, .write 1 7⟩]) .stopRepeat :=
  ⟨inv_quiet _ _, by decide, by decide, 7, by decide, by decide⟩

/-- BG in a lead mark, with a latency bound of 2 and `STOP_REPEAT` as the next access. -/
def stopInFrame (l : List Input) : State := { repeating 2 0 l with params := small 2 }

/-- With a latency bound of 2 a stop inside a frame draws nothing (92_eei_decisions D12). -/
theorem test_stop_inside_frame_draws_nothing :
    (after (stopInFrame [⟨0, .write 1 7⟩])).cancelLat = 0 ∧ (after (stopInFrame [⟨0, .write 1 7⟩])).draws = 0 ∧
      (after (stopInFrame [⟨0, .write 1 7⟩])).rptState = .stopping := by decide

theorem witness_StopInsideRepeatFrame :
    Inv (stopInFrame [⟨0, .write 1 7⟩]) ∧ (stopInFrame [⟨0, .write 1 7⟩]).rptState = .repeating ∧
      bgEmitting (stopInFrame [⟨0, .write 1 7⟩]) = true ∧ AboutToIssue .stopRepeat (stopInFrame [⟨0, .write 1 7⟩]) ∧
      frameTicksLeft (stopInFrame [⟨0, .write 1 7⟩]) = 6 :=
  ⟨inv_with (s := stopInFrame []) ⟨by decide, by decide, by decide, by decide, by decide, by decide, by decide, by decide⟩ _ _,
    by decide, by decide, by decide, by decide⟩

end Sys2Proof.Tests
end

/-! ## How the operations of an instant behave

One inversion lemma per operation that the laws of the model do not yet cover: the end of an interval, the end of the
join, the issue of a command, the host's access. -/

namespace Sys2Proof.Machine

/-! ### The intervals (R28, R153) -/

/-- The position after an interval is inside the frame. -/
theorem nextPosition_ne_idle {ph ph' : Phase} {i i' : BitVec 5} (h : nextPosition ph i = some (ph', i')) :
    ph' ≠ .idle := by
  cases ph <;> simp only [nextPosition, Option.some.injEq, Prod.mk.injEq, reduceCtorEq] at h
  case bitSpace => split at h <;> cases h <;> decide
  all_goals rw [← h.1]; decide

/-- With legal parameters an interval takes at least one tick (R6(a)). -/
theorem one_le_dur {p : Params} (hp : p.Valid) {ph : Phase} (hph : ph ≠ .idle) (i : BitVec 5) (F : Word) :
    1 ≤ dur p ph i F := by
  obtain ⟨⟨_, _, _, _, _, _, _⟩, _⟩ := hp
  cases ph <;> simp only [dur]
  case idle => exact absurd rfl hph
  case bitSpace => split <;> assumption
  all_goals assumption

/-- With legal parameters an interval fits its counter (R6(e)). -/
theorem dur_lt {p : Params} (hp : p.Valid) (ph : Phase) (i : BitVec 5) (F : Word) : dur p ph i F < 2 ^ 32 := by
  obtain ⟨-, -, -, -, ⟨-, hmax, hrep, -⟩, -⟩ := hp
  simp only [Params.durMax, Params.repeatDuration] at hmax hrep
  cases ph <;> simp only [dur]
  case bitSpace => split <;> omega
  all_goals omega

/-- With legal parameters no interval starts with its counter at 0. -/
theorem toWord_dur_ne_zero {p : Params} (hp : p.Valid) {ph : Phase} (hph : ph ≠ .idle) (i : BitVec 5) (F : Word) :
    toWord (dur p ph i F) ≠ 0 := by
  intro h
  have hz : (toWord (dur p ph i F)).toNat = 0 := by rw [h]; rfl
  rw [toWord, BitVec.toNat_ofNat, Nat.mod_eq_of_lt (dur_lt hp ph i F)] at hz
  have hone := one_le_dur hp hph i F
  omega

/-! ### The end of a frame and of an interval (R153, R154) -/

/-- A frame ends with FG's completion or BG's new wait, in `PH_IDLE`. -/
theorem frameEnd_cases (s : State) :
    (s.seqOwner = .fg ∧ frameEnd s = fgComplete s.durAcc { s with seqPhase := .idle }) ∨
      (s.seqOwner = .bg ∧ frameEnd s = bgFrameDone s.durAcc { s with seqPhase := .idle }) := by
  rcases ho : s.seqOwner
  · exact .inl ⟨rfl, by simp [frameEnd, ho]⟩
  · exact .inr ⟨rfl, by simp [frameEnd, ho]⟩

section
variable (s : State)

@[simp] theorem frameEnd_seqPhase : (frameEnd s).seqPhase = .idle := by
  rcases frameEnd_cases s with ⟨-, h⟩ | ⟨-, h⟩ <;> simp [h]
@[simp] theorem frameEnd_duty : (frameEnd s).duty = s.duty := by
  rcases frameEnd_cases s with ⟨-, h⟩ | ⟨-, h⟩ <;> simp [h]
@[simp] theorem frameEnd_carrierValue : (frameEnd s).carrierValue = s.carrierValue := by
  rcases frameEnd_cases s with ⟨-, h⟩ | ⟨-, h⟩ <;> simp [h]
@[simp] theorem frameEnd_now : (frameEnd s).now = s.now := by
  rcases frameEnd_cases s with ⟨-, h⟩ | ⟨-, h⟩ <;> simp [h]
@[simp] theorem frameEnd_trace : (frameEnd s).trace = s.trace := by
  rcases frameEnd_cases s with ⟨-, h⟩ | ⟨-, h⟩ <;> simp [h]
@[simp] theorem frameEnd_params : (frameEnd s).params = s.params := by
  rcases frameEnd_cases s with ⟨-, h⟩ | ⟨-, h⟩ <;> simp [h]
@[simp] theorem onValue_frameEnd : onValue (frameEnd s) = onValue s := by
  simp [onValue]

end

/-- The end of an interval turns a mark off, then enters the next interval or ends the frame. -/
theorem intervalEnd_cases (s : State) :
    (∃ ph i, nextPosition s.seqPhase s.bitIdx = some (ph, i) ∧
        intervalEnd s = enter ph i (carrierIfMark s.seqPhase 0 s)) ∨
      (nextPosition s.seqPhase s.bitIdx = none ∧ intervalEnd s = frameEnd (carrierIfMark s.seqPhase 0 s)) := by
  rcases hn : nextPosition s.seqPhase s.bitIdx with _ | ⟨ph, i⟩
  · exact .inr ⟨rfl, by simp [intervalEnd, advance, hn]⟩
  · exact .inl ⟨ph, i, rfl, by simp [intervalEnd, advance, hn]⟩

/-- The end of the join starts FG's frame, or, for `STOP_REPEAT`, completes (R212). -/
theorem fgJoinDone_cases (s : State) :
    (∃ k F, fgJoinDone s = fgStart k { s with frame := F }) ∨
      fgJoinDone s = { s with fgStage := .idle, busy := false } := by
  unfold fgJoinDone
  split
  · exact .inl ⟨_, _, rfl⟩
  split
  · exact .inl ⟨_, _, rfl⟩
  split
  · exact .inl ⟨_, _, rfl⟩
  split
  · exact .inl ⟨_, s.frame, rfl⟩
  · exact .inr rfl

/-! ### The host's access (R63, R92) -/

/-- A command answers a next state: it joins with its word latched, or it latches its word and writes results or the
duty. -/
theorem exec_cases (i : Instr) (s : State) :
    (∃ op arg auto, exec i s = .next (beginJoin (latch op arg auto s))) ∨
      ∃ op arg ticks code dec duty, exec i s = .next
        { latch op arg false s with rDuration := ticks, rCode := code, rDecode := dec, duty := duty } := by
  cases i with
  | decodeRaw code => exact .inr ⟨_, _, s.rDuration, s.rCode, _, s.duty, rfl⟩
  | encodeRaw address command => exact .inr ⟨_, _, s.rDuration, _, s.rDecode, s.duty, rfl⟩
  | sendBytes low high cmd invCmd => exact .inl ⟨_, _, _, rfl⟩
  | sendRepeatFrame => exact .inl ⟨_, _, _, rfl⟩
  | send address command autoRepeat => exact .inl ⟨_, _, _, rfl⟩
  | sendRaw code =>
    by_cases hv : (decodeRaw code).valid = true
    · exact .inl ⟨_, _, _, if_pos hv⟩
    · exact .inr ⟨_, _, 0, s.rCode, s.rDecode, s.duty, if_neg hv⟩
  | stopRepeat => exact .inl ⟨_, _, _, rfl⟩
  | configure duty => exact .inr ⟨_, _, s.rDuration, s.rCode, s.rDecode, _, rfl⟩

/-- What a host access leaves as it was, and what it does to the agents: nothing, or a join that FG begins while not
busy, with the cancellation request it makes (R205, R210). -/
structure AccessKeeps (s u : State) : Prop where
  frame : u.frame = s.frame
  seqPhase : u.seqPhase = s.seqPhase
  bitIdx : u.bitIdx = s.bitIdx
  ivlCnt : u.ivlCnt = s.ivlCnt
  durAcc : u.durAcc = s.durAcc
  seqOwner : u.seqOwner = s.seqOwner
  rptWait : u.rptWait = s.rptWait
  carrierValue : u.carrierValue = s.carrierValue
  now : u.now = s.now
  trace : u.trace = s.trace
  params : u.params = s.params
  agents : (u.busy = s.busy ∧ u.fgStage = s.fgStage ∧ u.rptState = s.rptState) ∨
    (s.busy = false ∧ u.busy = true ∧ u.fgStage = .join ∧
      u.rptState = if s.rptState = .repeating then .stopping else s.rptState)

theorem accessKeeps_refl (s : State) : AccessKeeps s s :=
  ⟨rfl, rfl, rfl, rfl, rfl, rfl, rfl, rfl, rfl, rfl, rfl, .inl ⟨rfl, rfl, rfl⟩⟩

theorem accessKeeps_beginJoin {s : State} (hb : s.busy = false) (op : Byte) (arg : Word) (auto : Bool) :
    AccessKeeps s (beginJoin (latch op arg auto s)) where
  frame := by simp
  seqPhase := by simp
  bitIdx := by simp
  ivlCnt := by simp
  durAcc := by simp
  seqOwner := by simp
  rptWait := by simp
  carrierValue := by simp
  now := by simp
  trace := by simp
  params := by simp
  agents := by
    refine .inr ⟨hb, by simp, by simp, ?_⟩
    rcases hr : s.rptState <;> simp [beginJoin, requestCancel, hr]

/-- A command issued while not busy. -/
theorem exec_keeps {i : Instr} {s u : State} (hb : s.busy = false) (h : exec i s = .next u) : AccessKeeps s u := by
  rcases exec_cases i s with ⟨op, arg, auto, he⟩ | ⟨op, arg, ticks, code, dec, duty, he⟩
  · cases h.symm.trans he
    exact accessKeeps_beginJoin hb op arg auto
  · cases h.symm.trans he
    exact { accessKeeps_refl s with }

theorem hostWrite_keeps {idx : Nat} {v : Word} {s u : State} (h : hostWrite idx v s = .next u) :
    AccessKeeps s u := by
  rcases hostWrite_cases h with ⟨-, -, rfl⟩ | ⟨-, -, rfl⟩ | ⟨hb, -, hi⟩ | ⟨-, rfl⟩ | ⟨-, rfl⟩
  · exact { accessKeeps_refl s with }
  · exact { accessKeeps_refl s with }
  · rcases issue_cases hi with ⟨i, -, he⟩ | ⟨e, -, rfl⟩
    · exact exec_keeps hb he
    · exact { accessKeeps_refl s with }
  · exact { accessKeeps_refl s with }
  · exact accessKeeps_refl _

/-- Every host write answers a next state (R240). -/
theorem hostWrite_next (idx : Nat) (v : Word) (s : State) : ∃ u, hostWrite idx v s = .next u := by
  have hissue : ∃ u, issue (byte0 v) s = .next u := by
    unfold issue
    split
    · next i _ =>
      rcases exec_cases i s with ⟨_, _, _, he⟩ | ⟨_, _, _, _, _, _, he⟩
      · exact ⟨_, he⟩
      · exact ⟨_, he⟩
    · exact ⟨_, rfl⟩
  unfold hostWrite
  split
  · split <;> exact ⟨_, rfl⟩
  · split
    · exact ⟨_, rfl⟩
    · exact hissue
  · exact ⟨_, rfl⟩
  · exact ⟨_, rfl⟩

/-- The induction over a step with the host's access said once: a step is a reset, or what the access keeps and every
zero-time transition keeps holds at the tick. -/
theorem step_keeps_of_access {P Q : State → Prop} {s t : State} (h : step s = .next t)
    (hreset : (takeInput s).1 = some .reset → Q (resetBlock (takeInput s).2))
    (haccess : ∀ u, AccessKeeps s u → P u)
    (hz : ∀ u u', P u → zeroTime u = some u' → P u')
    (ht : ∀ u, P u → zeroTime u = none → Q (tick u)) : Q t := by
  obtain ⟨l, hl⟩ := takeInput_snd s
  refine step_keeps hz ht h hreset (fun _ => ?_) (fun idx _ => ?_) (fun idx v u _ hw => ?_)
  · rw [hl]
    exact haccess _ { accessKeeps_refl s with }
  · rw [hl]
    exact haccess _ { accessKeeps_refl s with }
  · rw [hl] at hw
    exact haccess u { hostWrite_keeps hw with }

/-! ## What is written to the carrier setter (R13, R150) -/

/-- `s'` comes from `s` at the same instant, and what was written to the carrier setter on the way is `vs`. -/
structure CarrierWrites (s s' : State) (vs : List Nat) : Prop where
  trace : s'.trace = s.trace ++ vs.map fun v => (s.now, v)
  carrier : s'.carrierValue = vs.getLast?.getD s.carrierValue
  now : s'.now = s.now
  params : s'.params = s.params

theorem CarrierWrites.trans {s u w : State} {vs ws : List Nat} (h : CarrierWrites s u vs) (h' : CarrierWrites u w ws) :
    CarrierWrites s w (vs ++ ws) where
  trace := by rw [h'.trace, h.trace, h.now, List.map_append, List.append_assoc]
  carrier := by
    rw [h'.carrier, h.carrier, List.getLast?_append]
    cases ws.getLast? <;> rfl
  now := h'.now.trans h.now
  params := h'.params.trans h.params

/-- `v` where the phase is a mark, nothing elsewhere. -/
def valueIfMark (ph : Phase) (v : Nat) : List Nat := if isMark ph then [v] else []

theorem mem_valueIfMark {ph : Phase} {v x : Nat} (h : x ∈ valueIfMark ph v) : x = v := by
  unfold valueIfMark at h
  split at h
  · exact List.mem_singleton.1 h
  · exact absurd h List.not_mem_nil

theorem carrierIfMark_writes (ph : Phase) (v : Nat) (s : State) :
    CarrierWrites s (carrierIfMark ph v s) (valueIfMark ph v) := by
  unfold carrierIfMark valueIfMark
  split
  · exact ⟨rfl, rfl, rfl, rfl⟩
  · exact ⟨by simp, rfl, rfl, rfl⟩

/-- Entering an interval writes `ON_VALUE` if it is a mark (R150, R153). -/
theorem enter_writes (ph : Phase) (i : BitVec 5) (s : State) :
    CarrierWrites s (enter ph i s) (valueIfMark ph (onValue s)) :=
  { carrierIfMark_writes ph (onValue s) (loadInterval ph i s) with }

/-- A frame starts with a mark. -/
theorem startFrame_writes (o : Owner) (k : FrameKind) (s : State) :
    CarrierWrites s (startFrame o k s) [onValue s] := by
  have h := enter_writes (firstPhase k) 0 { s with seqOwner := o, durAcc := 0 }
  rw [show valueIfMark (firstPhase k) _ = [onValue s] by cases k <;> rfl] at h
  exact { h with }

/-- FG's frame, with its frame word loaded, starts with a mark too. -/
theorem fgStart_writes (k : FrameKind) (F : Word) (s : State) :
    CarrierWrites s (fgStart k { s with frame := F }) [onValue s] :=
  { startFrame_writes .fg k { s with frame := F, fgStage := .emit } with }

theorem frameEnd_writes (s : State) : CarrierWrites s (frameEnd s) [] :=
  ⟨by simp, by simp, by simp, by simp⟩

/-- The end of an interval writes a 0 if a mark ends, then `ON_VALUE` if a mark starts (R150, R151). -/
theorem intervalEnd_writes (s : State) :
    CarrierWrites s (intervalEnd s) (valueIfMark s.seqPhase 0 ++ valueIfMark (intervalEnd s).seqPhase (onValue s)) := by
  have hoff := carrierIfMark_writes s.seqPhase 0 s
  rcases intervalEnd_cases s with ⟨ph, i, -, he⟩ | ⟨-, he⟩
  · have hon := enter_writes ph i (carrierIfMark s.seqPhase 0 s)
    rw [onValue_carrierIfMark] at hon
    rw [he, enter_seqPhase]
    exact hoff.trans hon
  · rw [he, frameEnd_seqPhase]
    exact hoff.trans (frameEnd_writes _)

/-- The end of the join writes nothing, or the `ON_VALUE` of the lead mark of FG's frame. -/
theorem fgJoinDone_writes (s : State) :
    ∃ vs, CarrierWrites s (fgJoinDone s) vs ∧ ∀ v ∈ vs, v = onValue s := by
  rcases fgJoinDone_cases s with ⟨k, F, he⟩ | he
  · rw [he]
    exact ⟨[onValue s], fgStart_writes k F s, by simp⟩
  · rw [he]
    exact ⟨[], ⟨by simp, rfl, rfl, rfl⟩, by simp⟩

/-- No zero-time transition changes `ON_VALUE`: the duty is the host's (R230). -/
theorem zeroTime_onValue {s s' : State} (h : zeroTime s = some s') : onValue s' = onValue s := by
  rcases zeroTime_cases h with ⟨-, rfl⟩ | ⟨-, -, rfl⟩ | ⟨-, -, rfl⟩ | ⟨-, -, rfl⟩
  · rcases intervalEnd_cases s with ⟨ph, i, -, he⟩ | ⟨-, he⟩ <;> simp [he]
  · rfl
  · rcases fgJoinDone_cases s with ⟨k, F, he⟩ | he <;> simp [he, fgStart, onValue]
  · simp [bgFire]

/-- Every write of a zero-time transition is 0 or `ON_VALUE`. -/
theorem zeroTime_writes {s s' : State} (h : zeroTime s = some s') :
    ∃ vs, CarrierWrites s s' vs ∧ ∀ v ∈ vs, v = 0 ∨ v = onValue s := by
  rcases zeroTime_cases h with ⟨-, rfl⟩ | ⟨-, -, rfl⟩ | ⟨-, -, rfl⟩ | ⟨-, -, rfl⟩
  · refine ⟨_, intervalEnd_writes s, fun v hv => ?_⟩
    exact (List.mem_append.1 hv).imp mem_valueIfMark mem_valueIfMark
  · exact ⟨[], ⟨by simp, rfl, rfl, rfl⟩, by simp⟩
  · obtain ⟨vs, hw, hv⟩ := fgJoinDone_writes s
    exact ⟨vs, hw, fun v hmem => .inr (hv v hmem)⟩
  · exact ⟨_, startFrame_writes .bg .repeatFrame s, by simp⟩

theorem zeroTime_params {s s' : State} (h : zeroTime s = some s') : s'.params = s.params := by
  obtain ⟨vs, hw, -⟩ := zeroTime_writes h
  exact hw.params

/-- From `s` to `u`, at one instant, each value written to the carrier setter is 0 or `ON_VALUE`. -/
def WritesOnValues (s u : State) : Prop :=
  ∃ vs, CarrierWrites s u vs ∧ ∀ v ∈ vs, v = 0 ∨ v = onValue u

theorem AccessKeeps.writesOnValues {s u : State} (h : AccessKeeps s u) : WritesOnValues s u :=
  ⟨[], ⟨by simp [h.trace], h.carrierValue, h.now, h.params⟩, by simp⟩

theorem WritesOnValues.zeroTime {s u u' : State} (h : WritesOnValues s u) (hz : zeroTime u = some u') :
    WritesOnValues s u' := by
  obtain ⟨vs, hw, hv⟩ := h
  obtain ⟨ws, hw', hv'⟩ := zeroTime_writes hz
  refine ⟨vs ++ ws, hw.trans hw', fun v hmem => ?_⟩
  rw [zeroTime_onValue hz]
  exact (List.mem_append.1 hmem).elim (hv v) (hv' v)

/-- A step that takes the reset input. -/
theorem step_of_reset {s t : State} (h : step s = .next t) (hr : (takeInput s).1 = some .reset) :
    ∃ l, t = resetBlock { s with inputs := l } := by
  obtain ⟨l, hl⟩ := takeInput_snd s
  refine ⟨l, ?_⟩
  rw [step, instant, hr, hl] at h
  exact (Host.Outcome.next.inj h).symm

/-- Everything another step does to the carrier, its record and the parameters: the writes of the instant, then the
tick. -/
theorem step_writes {s t : State} (h : step s = .next t) (hr : (takeInput s).1 ≠ some .reset) :
    ∃ u, t = tick u ∧ WritesOnValues s u :=
  step_keeps_of_access (P := WritesOnValues s) (Q := fun t => ∃ u, t = tick u ∧ WritesOnValues s u) h
    (fun hreset => absurd hreset hr) (fun _ hu => hu.writesOnValues) (fun _ _ hu hz => hu.zeroTime hz)
    (fun u hu _ => ⟨u, rfl, hu⟩)

/-! ## The settle ends (R6, R216) -/

/-- With legal parameters no interval is over as it starts. -/
theorem enter_interval_runs {s : State} (hp : s.params.Valid) {ph : Phase} (hph : ph ≠ .idle) (i : BitVec 5) :
    intervalEndEnabled (enter ph i s) = false := by
  have hne := toWord_dur_ne_zero hp hph i s.frame
  simpa [intervalEndEnabled, hph] using hne

theorem startFrame_interval_runs {s : State} (hp : s.params.Valid) (o : Owner) (k : FrameKind) :
    intervalEndEnabled (startFrame o k s) = false :=
  enter_interval_runs (s := { s with seqOwner := o, durAcc := 0 }) hp (ph := firstPhase k) (by cases k <;> decide) 0

theorem intervalEnd_interval_runs {s : State} (hp : s.params.Valid) : intervalEndEnabled (intervalEnd s) = false := by
  rcases intervalEnd_cases s with ⟨ph, i, hn, he⟩ | ⟨-, he⟩
  · rw [he]
    exact enter_interval_runs (by simpa using hp) (nextPosition_ne_idle hn) i
  · simp [he, intervalEndEnabled]

theorem fgJoinDone_interval_runs {s : State} (hp : s.params.Valid) (hi : intervalEndEnabled s = false) :
    intervalEndEnabled (fgJoinDone s) = false := by
  rcases fgJoinDone_cases s with ⟨k, F, he⟩ | he
  · rw [he]
    exact startFrame_interval_runs (s := { s with frame := F, fgStage := .emit }) hp .fg k
  · rw [he]
    exact hi

/-- With legal parameters no interval is over after a zero-time transition. -/
theorem zeroTime_interval_runs {s s' : State} (hp : s.params.Valid) (h : zeroTime s = some s') :
    intervalEndEnabled s' = false := by
  rcases zeroTime_cases h with ⟨-, rfl⟩ | ⟨hi, -, rfl⟩ | ⟨hi, -, rfl⟩ | ⟨-, -, rfl⟩
  · exact intervalEnd_interval_runs hp
  · exact hi
  · exact fgJoinDone_interval_runs hp hi
  · exact startFrame_interval_runs hp .bg .repeatFrame

/-- FG leaves the join, and no session is on: nothing more is enabled. -/
theorem zeroTime_fgJoinDone {s : State} (hp : s.params.Valid) (hi : intervalEndEnabled s = false)
    (hr : s.rptState = .idle) : zeroTime (fgJoinDone s) = none := by
  have hruns := fgJoinDone_interval_runs hp hi
  have hrpt : (fgJoinDone s).rptState = .idle := by
    rcases fgJoinDone_cases s with ⟨k, F, he⟩ | he <;> simp [he, fgStart, hr]
  have hstage : (fgJoinDone s).fgStage ≠ .join := by
    rcases fgJoinDone_cases s with ⟨k, F, he⟩ | he <;> simp [he, fgStart]
  rw [zeroTime_none_iff]
  exact ⟨hruns, by simp [bgStopEnabled, hrpt], by simp [fgJoinDoneEnabled, hstage], by simp [bgFireEnabled, hrpt]⟩

/-- BG has just started a frame in its session: nothing more is enabled. -/
theorem zeroTime_bgFire {s : State} (hp : s.params.Valid) (hr : s.rptState = .repeating) :
    zeroTime (bgFire s) = none := by
  have hruns := startFrame_interval_runs hp .bg .repeatFrame
  rw [zeroTime_none_iff]
  exact ⟨hruns, by simp [bgStopEnabled, bgFire, hr], by simp [fgJoinDoneEnabled, bgFire, hr],
    by simp [bgFireEnabled, bgFire, firstPhase]⟩

/-- With no session on and no interval over, only the end of the join is left. -/
theorem settle_one_of_no_session {s : State} (hp : s.params.Valid) (hi : intervalEndEnabled s = false)
    (hr : s.rptState = .idle) : ∃ t, settle 1 s = some t := by
  rcases hz : zeroTime s with _ | s'
  · exact ⟨s, settle_quiet hz⟩
  refine ⟨s', ?_⟩
  rw [settle_step hz]
  rcases zeroTime_cases hz with ⟨h, -⟩ | ⟨-, h, -⟩ | ⟨-, -, rfl⟩ | ⟨-, h, -⟩
  · simp [hi] at h
  · simp [bgStopEnabled, hr] at h
  · exact settle_quiet (zeroTime_fgJoinDone hp hi hr)
  · simp [bgFireEnabled, hr] at h

/-- With no interval over, at most the stop of the session and the end of the join follow, or a background frame. -/
theorem settle_two_of_interval_runs {s : State} (hp : s.params.Valid) (hi : intervalEndEnabled s = false) :
    ∃ t, settle 2 s = some t := by
  rcases hz : zeroTime s with _ | s'
  · exact ⟨s, settle_quiet hz⟩
  rw [settle_step hz]
  rcases zeroTime_cases hz with ⟨h, -⟩ | ⟨-, -, rfl⟩ | ⟨-, h, rfl⟩ | ⟨-, h, rfl⟩
  · simp [hi] at h
  · exact settle_one_of_no_session hp hi rfl
  · obtain ⟨-, hr, -⟩ := (fgJoinDoneEnabled_iff s).1 h
    exact ⟨_, settle_quiet (zeroTime_fgJoinDone hp hi hr)⟩
  · obtain ⟨hr, -, -⟩ := (bgFireEnabled_iff s).1 h
    exact ⟨_, settle_quiet (zeroTime_bgFire hp hr)⟩

/-- At most three transitions: the end of an interval, then the two at most of `settle_two_of_interval_runs`. -/
theorem settle_three_of_valid {s : State} (hp : s.params.Valid) : ∃ t, settle 3 s = some t := by
  rcases hz : zeroTime s with _ | s'
  · exact ⟨s, settle_quiet hz⟩
  rw [settle_step hz]
  have hp' : s'.params.Valid := by rw [zeroTime_params hz]; exact hp
  exact settle_two_of_interval_runs hp' (zeroTime_interval_runs hp hz)

/-- With legal parameters the rest of an instant has a next state: three transitions are within the fuel (log 6). -/
theorem finishInstant_total {s : State} (hp : s.params.Valid) : ∃ t, finishInstant s = .next t := by
  obtain ⟨u, hu⟩ := settle_three_of_valid hp
  exact ⟨tick u, finishInstant_of_settle hu (by decide)⟩

end Sys2Proof.Machine

namespace Sys2Proof.Safety

open Sys2Proof.Machine

/-! ## The agents keep to R42 points 1 and 2 inside an instant

A frame in progress has one writer, and it is FG's exactly while FG is emitting. An access keeps that where `BUSY` is
the shadow of the stage, and every zero-time transition keeps it. -/

/-- R42 points 1 and 2. -/
def OneWriter (s : State) : Prop := SingleWriter s ∧ EmitIsForeground s

/-- What decides `OneWriter`. -/
theorem OneWriter.congr {s u : State} (h : OneWriter s) (hphase : u.seqPhase = s.seqPhase)
    (howner : u.seqOwner = s.seqOwner) (hrpt : u.rptState = s.rptState) (hstage : u.fgStage = s.fgStage) :
    OneWriter u := by
  unfold OneWriter SingleWriter EmitIsForeground at *
  rwa [hphase, howner, hrpt, hstage]

/-- Between frames `OneWriter` says only that FG is not emitting. -/
theorem oneWriter_of_idle {s : State} (hi : s.seqPhase = .idle) (he : s.fgStage ≠ .emit) : OneWriter s := by
  simp [OneWriter, SingleWriter, EmitIsForeground, hi, he]

/-- Between frames FG is not emitting. -/
theorem OneWriter.not_emit {s : State} (h : OneWriter s) (hi : s.seqPhase = .idle) : s.fgStage ≠ .emit :=
  fun he => (h.2.1 he).1 hi

/-- FG in the join and no session: no frame is in progress. -/
theorem OneWriter.idle_of_join {s : State} (h : OneWriter s) (hj : s.fgStage = .join) (hr : s.rptState = .idle) :
    s.seqPhase = .idle := by
  obtain ⟨⟨-, hbg⟩, hemit⟩ := h
  by_contra hne
  rcases ho : s.seqOwner
  · exact absurd (hj.symm.trans (hemit.2 ⟨hne, ho⟩)) (by decide)
  · exact (hbg hne ho).1 hr

/-- A session, and BG not inside a frame: no frame is in progress. -/
theorem OneWriter.idle_of_session {s : State} (h : OneWriter s) (hb : bgEmitting s = false)
    (hr : s.rptState ≠ .idle) : s.seqPhase = .idle := by
  obtain ⟨⟨hfg, -⟩, -⟩ := h
  by_contra hne
  rcases ho : s.seqOwner
  · exact hr (hfg hne ho)
  · exact absurd ((bgEmitting_iff s).2 ⟨hne, ho⟩) (by simp [hb])

/-- A join begins only while FG is idle, so no frame of FG's is in progress, and a session it stops stays a session. -/
theorem OneWriter.access {s u : State} (h : OneWriter s) (hbusy : BusyIsStage s) (ha : AccessKeeps s u) :
    OneWriter u := by
  rcases ha.agents with ⟨-, hstage, hrpt⟩ | ⟨hb, -, hstage, hrpt⟩
  · exact h.congr ha.seqPhase ha.seqOwner hrpt hstage
  have hidle : s.fgStage = .idle := by
    by_contra hne
    exact absurd (hbusy.2 hne) (by simp [hb])
  obtain ⟨⟨hfg, hbg⟩, hemit⟩ := h
  have hnofg : ¬(s.seqPhase ≠ .idle ∧ s.seqOwner = .fg) := fun hf => absurd (hemit.2 hf) (by simp [hidle])
  refine ⟨⟨fun hp ho => ?_, fun hp ho => ⟨?_, by simp [hstage]⟩⟩, ?_⟩
  · exact absurd ⟨ha.seqPhase ▸ hp, ha.seqOwner ▸ ho⟩ hnofg
  · have hsession := (hbg (ha.seqPhase ▸ hp) (ha.seqOwner ▸ ho)).1
    rw [hrpt]
    split
    · decide
    · exact hsession
  · simpa [EmitIsForeground, hstage, ha.seqPhase, ha.seqOwner] using hnofg

theorem OneWriter.intervalEnd {s : State} (h : OneWriter s) (he : intervalEndEnabled s = true) :
    OneWriter (intervalEnd s) := by
  have hne := ((intervalEndEnabled_iff s).1 he).1
  rcases intervalEnd_cases s with ⟨ph, i, hn, hi⟩ | ⟨-, hi⟩
  · have hph := nextPosition_ne_idle hn
    simpa [hi, OneWriter, SingleWriter, EmitIsForeground, hne, hph] using h
  rw [hi]
  refine oneWriter_of_idle (frameEnd_seqPhase _) ?_
  rcases frameEnd_cases (carrierIfMark s.seqPhase 0 s) with ⟨-, hf⟩ | ⟨ho, hf⟩
  · simp [hf]
  · simpa [hf] using (h.1.2 hne (by simpa using ho)).2

theorem OneWriter.fgJoinDone {s : State} (h : OneWriter s) (hj : s.fgStage = .join) (hr : s.rptState = .idle) :
    OneWriter (fgJoinDone s) := by
  rcases fgJoinDone_cases s with ⟨k, F, he⟩ | he
  · have hne : firstPhase k ≠ .idle := by cases k <;> decide
    simp [he, fgStart, OneWriter, SingleWriter, EmitIsForeground, hr, hne]
  · exact oneWriter_of_idle (by simpa [he] using h.idle_of_join hj hr) (by simp [he])

theorem OneWriter.bgFire {s : State} (h : OneWriter s) (hi : s.seqPhase = .idle) (hr : s.rptState = .repeating) :
    OneWriter (bgFire s) := by
  simp [OneWriter, SingleWriter, EmitIsForeground, Machine.bgFire, hr, h.not_emit hi]

theorem OneWriter.zeroTime {s s' : State} (h : OneWriter s) (hz : zeroTime s = some s') : OneWriter s' := by
  rcases zeroTime_cases hz with ⟨he, rfl⟩ | ⟨-, he, rfl⟩ | ⟨-, he, rfl⟩ | ⟨-, he, rfl⟩
  · exact h.intervalEnd he
  · obtain ⟨hr, hb, -⟩ := (bgStopEnabled_iff s).1 he
    have hi := h.idle_of_session hb (by simp [hr])
    exact oneWriter_of_idle hi (h.not_emit hi)
  · obtain ⟨hj, hr, -⟩ := (fgJoinDoneEnabled_iff s).1 he
    exact h.fgJoinDone hj hr
  · obtain ⟨hr, hi, -⟩ := (bgFireEnabled_iff s).1 he
    exact h.bgFire hi hr

/-! ## A mark writes TRACE twice (R150, R151) -/

/-- Inside an instant that began at `s`, with no interval over any more: TRACE has got the writes of `markWrites`, and
a mark of `s` that does not end at this instant is still in progress. -/
structure MarksWritten (s u : State) : Prop where
  runs : intervalEndEnabled u = false
  now : u.now = s.now
  trace : u.trace = s.trace ++ markWrites s u
  same : isMark s.seqPhase = true → s.ivlCnt ≠ 0 → u.seqPhase = s.seqPhase

/-- What neither moves the emitter nor writes keeps `MarksWritten`. -/
theorem MarksWritten.congr {s u w : State} (h : MarksWritten s u) (hruns : intervalEndEnabled w = false)
    (hphase : w.seqPhase = u.seqPhase) (hnow : w.now = u.now) (htrace : w.trace = u.trace)
    (hon : onValue w = onValue u) : MarksWritten s w where
  runs := hruns
  now := hnow.trans h.now
  trace := by rw [htrace, h.trace, markWrites, markWrites, hphase, hon]
  same hm h0 := hphase.trans (h.same hm h0)

/-- While no interval ends at the instant, nothing is to be written. -/
theorem marksWritten_access {s u : State} (ha : AccessKeeps s u) (hruns : intervalEndEnabled u = false) :
    MarksWritten s u where
  runs := hruns
  now := ha.now
  trace := by
    have hcnt : isMark s.seqPhase = true → s.ivlCnt ≠ 0 := by
      intro hm h0
      have hne : s.seqPhase ≠ .idle := fun hi => by simp [hi, isMark] at hm
      have he := (intervalEndEnabled_iff u).2 ⟨ha.seqPhase ▸ hne, ha.ivlCnt ▸ h0⟩
      exact absurd he (by simp [hruns])
    have hend : ¬(isMark s.seqPhase = true ∧ s.ivlCnt = 0) := fun ⟨hm, h0⟩ => hcnt hm h0
    have hstart : ¬(isMark u.seqPhase = true ∧ ¬(isMark s.seqPhase = true ∧ s.ivlCnt ≠ 0)) := by
      rw [ha.seqPhase]
      exact fun ⟨hm, hnot⟩ => hnot ⟨hm, hcnt hm⟩
    rw [markWrites, if_neg hend, if_neg hstart, List.append_nil, List.append_nil]
    exact ha.trace
  same _ _ := ha.seqPhase

/-- At the end of an interval the 0 of its mark and the `ON_VALUE` of the next are written. -/
theorem marksWritten_intervalEnd {s u : State} (hp : u.params.Valid) (ha : AccessKeeps s u)
    (he : intervalEndEnabled u = true) : MarksWritten s (intervalEnd u) := by
  have h0 : s.ivlCnt = 0 := ha.ivlCnt ▸ ((intervalEndEnabled_iff u).1 he).2
  have hw := intervalEnd_writes u
  have hon : onValue (intervalEnd u) = onValue u :=
    zeroTime_onValue (by simp [zeroTime, he])
  refine ⟨intervalEnd_interval_runs hp, hw.now.trans ha.now, ?_, fun _ hne => absurd h0 hne⟩
  rw [hw.trace, ha.trace, ha.now, ha.seqPhase, ← hon, List.map_append]
  simp [markWrites, valueIfMark, h0, apply_ite (List.map _)]

/-- A frame starts from `PH_IDLE`, and its lead mark writes `ON_VALUE`. -/
theorem MarksWritten.startFrame {s u w : State} (h : MarksWritten s u) (hidle : u.seqPhase = .idle)
    (hw : CarrierWrites u w [onValue u]) (hon : onValue w = onValue u) (hmark : isMark w.seqPhase = true)
    (hruns : intervalEndEnabled w = false) : MarksWritten s w := by
  have hnot : ¬(isMark s.seqPhase = true ∧ s.ivlCnt ≠ 0) := fun ⟨hm, h0⟩ => by
    simp [← h.same hm h0, hidle, isMark] at hm
  refine ⟨hruns, hw.now.trans h.now, ?_, fun hm h0 => absurd ⟨hm, h0⟩ hnot⟩
  rw [hw.trace, h.trace, h.now]
  simp only [markWrites, hidle, hmark, hnot, hon]
  simp [isMark]

/-- The end of the join outside a frame writes what its frame's lead mark asks for, or nothing. -/
theorem MarksWritten.fgJoinDone {s u : State} (h : MarksWritten s u) (hp : u.params.Valid)
    (hidle : u.seqPhase = .idle) : MarksWritten s (fgJoinDone u) := by
  have hruns := fgJoinDone_interval_runs hp h.runs
  rcases fgJoinDone_cases u with ⟨k, F, he⟩ | he
  · rw [he] at hruns ⊢
    have hmark : isMark (fgStart k { u with frame := F }).seqPhase = true := by
      cases k <;> simp [fgStart, firstPhase, isMark]
    exact h.startFrame hidle (fgStart_writes k F u) (by simp [fgStart, onValue]) hmark hruns
  · rw [he] at hruns ⊢
    exact h.congr hruns rfl rfl rfl rfl

/-- With no interval over, what the rest of the settle writes is the lead mark of a frame it starts. -/
theorem MarksWritten.zeroTime {s u u' : State} (h : MarksWritten s u) (hp : u.params.Valid) (ho : OneWriter u)
    (hz : zeroTime u = some u') : MarksWritten s u' := by
  have hruns := zeroTime_interval_runs hp hz
  rcases zeroTime_cases hz with ⟨he, -⟩ | ⟨-, -, rfl⟩ | ⟨-, he, rfl⟩ | ⟨-, he, rfl⟩
  · exact absurd he (by simp [h.runs])
  · exact h.congr hruns rfl rfl rfl rfl
  · obtain ⟨hj, hr, -⟩ := (fgJoinDoneEnabled_iff u).1 he
    exact h.fgJoinDone hp (ho.idle_of_join hj hr)
  · obtain ⟨-, hidle, -⟩ := (bgFireEnabled_iff u).1 he
    exact h.startFrame hidle (startFrame_writes .bg .repeatFrame u) (zeroTime_onValue hz)
      (by simp [bgFire, firstPhase, isMark]) hruns

/-- How far an instant that began at `s` has come: its access is made, or the intervals over have ended too. -/
def MarkProgress (s u : State) : Prop :=
  u.params.Valid ∧ OneWriter u ∧ (AccessKeeps s u ∨ MarksWritten s u)

theorem markProgress_access {s u : State} (hs : Inv s) (ha : AccessKeeps s u) : MarkProgress s u := by
  obtain ⟨hone, hemit, -⟩ := hs.guarantees
  exact ⟨ha.params ▸ hs.params, OneWriter.access ⟨hone, hemit⟩ hs.busy ha, .inl ha⟩

theorem MarkProgress.marksWritten {s u : State} (h : MarkProgress s u) (hruns : intervalEndEnabled u = false) :
    MarksWritten s u := by
  obtain ⟨-, -, ha | hw⟩ := h
  · exact marksWritten_access ha hruns
  · exact hw

theorem MarkProgress.zeroTime {s u u' : State} (h : MarkProgress s u) (hz : zeroTime u = some u') :
    MarkProgress s u' := by
  have hprogress := h
  obtain ⟨hp, ho, hstage⟩ := h
  refine ⟨zeroTime_params hz ▸ hp, ho.zeroTime hz, .inr ?_⟩
  by_cases he : intervalEndEnabled u = true
  · have hu' : u' = intervalEnd u := by simpa [Machine.zeroTime, he] using hz.symm
    rcases hstage with ha | hw
    · exact hu' ▸ marksWritten_intervalEnd hp ha he
    · exact absurd he (by simp [hw.runs])
  · exact (hprogress.marksWritten (by simpa using he)).zeroTime hp ho hz

/-! ## The statements on the step and on TRACE -/

/-- Settles O31: after at most one end of an interval none is over, and then `settle_two_of_interval_runs`
bounds the rest. -/
theorem settleEndsInThree : Obligations.SettleEndsInThree := by
  intro s hp
  obtain ⟨t, ht⟩ := settle_three_of_valid hp
  have hkeep := settle_keeps (P := fun _ => True) (fun _ _ _ _ => trivial) ht trivial
  exact ⟨t, ht, hkeep.2⟩

/-- Settles O32: an access answers a next state and keeps the parameters, and the rest of the instant settles. -/
theorem stepNeverStops : Obligations.StepNeverStops := by
  intro s hp
  obtain ⟨l, hl⟩ := takeInput_snd s
  have hp' : (takeInput s).2.params.Valid := by rw [hl]; exact hp
  unfold step instant
  rcases (takeInput s).1 with _ | ⟨idx⟩ | ⟨idx, v⟩ | _
  · exact finishInstant_total hp'
  · exact finishInstant_total (s := recordRead idx (takeInput s).2) hp'
  · obtain ⟨u, hu⟩ := hostWrite_next idx v (takeInput s).2
    have hpu : u.params.Valid := by rw [(hostWrite_keeps hu).params]; exact hp'
    simpa [runInstant, hu] using finishInstant_total hpu
  · exact ⟨_, rfl⟩

/-- Settles O34: a reset keeps the parameters, and so does whatever only writes the carrier. -/
theorem parametersConstant : Obligations.ParametersConstant := by
  intro s t h
  by_cases hr : (takeInput s).1 = some .reset
  · obtain ⟨l, rfl⟩ := step_of_reset h hr
    rfl
  · obtain ⟨u, rfl, vs, hw, -⟩ := step_writes h hr
    exact hw.params

/-- Settles O39: an instant adds pairs of its own time, and the present then moves on. -/
theorem stepKeepsTraceInOrder : Obligations.StepKeepsTraceInOrder := by
  rintro s t ⟨hsorted, hpast⟩ h
  by_cases hr : (takeInput s).1 = some .reset
  · obtain ⟨l, rfl⟩ := step_of_reset h hr
    exact ⟨List.Pairwise.nil, fun p hp => absurd hp List.not_mem_nil⟩
  obtain ⟨u, rfl, vs, hw, -⟩ := step_writes h hr
  have hnew : ∀ p ∈ vs.map (fun v => (s.now, v)), p.1 = s.now := by simp
  have hnow : (tick u).now = s.now + 1 := by simp [hw.now]
  have htrace : (tick u).trace = s.trace ++ vs.map (fun v => (s.now, v)) := hw.trace
  constructor
  · rw [htrace, List.pairwise_append]
    refine ⟨hsorted, List.pairwise_of_forall_mem_list fun a ha b hb => ?_, fun a ha b hb => ?_⟩
    · rw [hnew a ha, hnew b hb]
    · rw [hnew b hb]
      exact (hpast a ha).le
  · intro p hp
    rw [hnow]
    rcases List.mem_append.1 (htrace ▸ hp) with hp | hp
    · exact (hpast p hp).trans (Nat.lt_succ_self _)
    · rw [hnew p hp]
      exact Nat.lt_succ_self _

/-- Settles O41: the writes of an instant leave the last of them on the output. -/
theorem stepKeepsTraceRecordsCarrier : Obligations.StepKeepsTraceRecordsCarrier := by
  intro s t hs h
  by_cases hr : (takeInput s).1 = some .reset
  · obtain ⟨l, rfl⟩ := step_of_reset h hr
    rfl
  obtain ⟨u, rfl, vs, hw, -⟩ := step_writes h hr
  have htrace : (tick u).trace = s.trace ++ vs.map (fun v => (s.now, v)) := hw.trace
  have hcarrier : (tick u).carrierValue = vs.getLast?.getD s.carrierValue := hw.carrier
  unfold TraceRecordsCarrier at hs ⊢
  rw [htrace, hcarrier, List.getLast?_append, List.getLast?_map]
  cases vs.getLast? with
  | none => simpa using hs
  | some v => rfl

/-- Settles O42: the writes of an instant are 0 or `ON_VALUE` where they are made, and the tick changes neither the
duty nor `TOP`. -/
theorem traceGrowsByThisInstant : Obligations.TraceGrowsByThisInstant := by
  intro s t h hr
  obtain ⟨u, rfl, vs, hw, hv⟩ := step_writes h hr
  refine ⟨vs.map (fun v => (s.now, v)), hw.trace, fun p hp => ?_⟩
  obtain ⟨v, hmem, rfl⟩ := List.mem_map.1 hp
  exact ⟨rfl, hv v hmem⟩

/-- Settles O57: the settle ends with the marks written, and the tick changes neither TRACE nor the phase. -/
theorem markWritesTraceTwice : Obligations.MarkWritesTraceTwice := by
  intro s t hs hr h
  refine step_keeps_of_access (P := MarkProgress s) (Q := fun t => t.trace = s.trace ++ markWrites s t) h
    (fun hreset => absurd hreset hr) (fun u ha => markProgress_access hs ha) (fun _ _ hu hz => hu.zeroTime hz)
    (fun u hu hquiet => ?_)
  obtain ⟨hruns, -⟩ := (zeroTime_none_iff u).1 hquiet
  exact (hu.marksWritten hruns).trace

end Sys2Proof.Safety

namespace Sys2Proof.Machine

open Sys2Proof.Safety (startsSession Issues inputNow)

/-! ## The sums of the intervals started (R30, R102, R103) -/

/-- The position after an interval is in a frame of the same kind. -/
theorem nextPosition_same_frame {ph ph' : Phase} {i i' : BitVec 5} (h : nextPosition ph i = some (ph', i')) :
    inFullFrame ph' = inFullFrame ph ∧ inRepeatFrame ph' = inRepeatFrame ph := by
  cases ph <;> simp only [nextPosition, Option.some.injEq, Prod.mk.injEq, reduceCtorEq] at h
  case bitSpace => split at h <;> cases h <;> decide
  all_goals rw [← h.1]; decide

/-- The sum of the intervals started grows by the interval entered (R30). -/
theorem startedDuration_next (p : Params) (F : Word) {ph ph' : Phase} {i i' : BitVec 5}
    (h : nextPosition ph i = some (ph', i')) :
    startedDuration p F ph' i' = startedDuration p F ph i + dur p ph' i' F := by
  cases ph <;> simp only [nextPosition, Option.some.injEq, Prod.mk.injEq, reduceCtorEq] at h
  case bitSpace =>
    split at h <;> simp only [Option.some.injEq, Prod.mk.injEq] at h <;> obtain ⟨rfl, rfl⟩ := h
    · next hi =>
      have hsucc : (i + 1).toNat = i.toNat + 1 := by bv_omega
      simp only [startedDuration, dur, hsucc]
    · next hi =>
      have hlast : i.toNat = 31 := by omega
      simp only [startedDuration, dur, hlast]
  all_goals obtain ⟨rfl, rfl⟩ := h
  case bitMark => simp only [startedDuration, dur, bitsDuration]; omega
  all_goals rfl

theorem startedDuration_firstPhase (p : Params) (F : Word) (k : FrameKind) :
    startedDuration p F (firstPhase k) 0 = dur p (firstPhase k) 0 F := by
  cases k <;> rfl

/-- The data bits in closed form: a mark each, and the spaces counted by their bits. -/
theorem bitsDuration_eq (p : Params) (F : Word) (n : Nat) :
    bitsDuration p F n = n * p.bitMark + (List.range n).countP (fun i => F.getLsbD i) * p.bit1Space +
      (n - (List.range n).countP fun i => F.getLsbD i) * p.bit0Space := by
  induction n with
  | zero => simp [bitsDuration]
  | succ n ih =>
    have hle : (List.range n).countP (fun i => F.getLsbD i) ≤ n := by
      simpa using List.countP_le_length (p := fun i => F.getLsbD i) (l := List.range n)
    rw [bitsDuration, ih, List.range_succ, List.countP_append]
    generalize (List.range n).countP (fun i => F.getLsbD i) = c at hle
    by_cases hb : F.getLsbD n = true
    · simp only [hb, List.countP_singleton, if_true, Nat.add_sub_add_right]
      ring
    · have hsub : n + 1 - c = n - c + 1 := by omega
      simp only [hb, List.countP_singleton, if_false, Nat.add_zero, hsub, Bool.false_eq_true]
      ring

/-- At the last interval of a frame the sum is the duration of the whole frame (R102, R103). -/
theorem startedDuration_last (p : Params) (F : Word) {ph : Phase} {i : BitVec 5} (hne : ph ≠ .idle)
    (h : nextPosition ph i = none) : startedDuration p F ph i = wholeDuration p F ph := by
  cases ph
  case idle => exact absurd rfl hne
  case bitSpace => simp only [nextPosition] at h; split at h <;> cases h
  case trailMark =>
    simp only [startedDuration, wholeDuration, inFullFrame, if_true, frameDuration, bitsDuration_eq, popcount]
    omega
  case rptTrailMark => rfl
  all_goals cases h

/-! ## What a command does at its issue, and what an access is (R63, R92) -/

/-- A command that joins latches its own word and begins the join (R210). -/
theorem exec_of_joining {i : Instr} (h : joining i.opcode i.operand = true) (s : State) :
    exec i s = .next (beginJoin (latch i.opcode i.operand (startsSession i) s)) := by
  cases i with
  | decodeRaw code => exact absurd h Bool.false_ne_true
  | encodeRaw address command => exact absurd h Bool.false_ne_true
  | configure duty => exact absurd h Bool.false_ne_true
  | sendRaw code =>
    have hv : (decodeRaw code).valid = true := (Bool.or_false _).symm.trans h
    exact if_pos hv
  | sendBytes low high cmd invCmd => rfl
  | sendRepeatFrame => rfl
  | send address command autoRepeat => rfl
  | stopRepeat => rfl

/-- Any other command latches its own word and is over; a result register or the duty is its own command's to write
(R130, R185, R230). -/
theorem exec_of_not_joining {i : Instr} (h : joining i.opcode i.operand = false) (s : State) :
    ∃ ticks code dec duty,
      exec i s = .next { latch i.opcode i.operand false s with
        rDuration := ticks, rCode := code, rDecode := dec, duty := duty } ∧
      (code = s.rCode ∨ ∃ a c, i = .encodeRaw a c ∧ code = encodeRaw a c) ∧
      (dec = s.rDecode ∨ ∃ w, i = .decodeRaw w ∧ dec = decodeResult (decodeRaw w)) ∧
      (duty = s.duty ∨ ∃ d, i = .configure d ∧ duty = legalDuty d) := by
  cases i with
  | decodeRaw code => exact ⟨s.rDuration, s.rCode, _, s.duty, rfl, .inl rfl, .inr ⟨code, rfl, rfl⟩, .inl rfl⟩
  | encodeRaw address command =>
    exact ⟨s.rDuration, _, s.rDecode, s.duty, rfl, .inr ⟨address, command, rfl, rfl⟩, .inl rfl, .inl rfl⟩
  | configure duty => exact ⟨s.rDuration, s.rCode, s.rDecode, _, rfl, .inl rfl, .inl rfl, .inr ⟨duty, rfl, rfl⟩⟩
  | sendRaw code =>
    have hv : (decodeRaw code).valid = false := (Bool.or_false _).symm.trans h
    exact ⟨0, s.rCode, s.rDecode, s.duty, if_neg (by simp [hv]), .inl rfl, .inl rfl, .inl rfl⟩
  | sendBytes low high cmd invCmd => exact absurd h.symm Bool.false_ne_true
  | sendRepeatFrame => exact absurd h.symm Bool.false_ne_true
  | send address command autoRepeat => exact absurd h.symm Bool.false_ne_true
  | stopRepeat => exact absurd h.symm Bool.false_ne_true

/-- Auto-repeat is asked for by a `SEND` only (R180). -/
theorem opcode_of_startsSession {i : Instr} (h : startsSession i = true) : i.opcode = opSend := by
  cases i with
  | send address command autoRepeat => rfl
  | _ => cases h

/-- What the access of an instant without reset can do to the block. -/
inductive AccessDoes (s : State) : State → Prop
  /-- No access, a read, a write to `STATUS` or to a read-only index, or a dropped command-port write. -/
  | flags (l : List Input) (log : List ReadRecord) (ill ovr : Bool) :
      AccessDoes s { s with inputs := l, readLog := log, ill := ill, ovr := ovr }
  /-- A write to `CMD_ARG`. -/
  | argument (l : List Input) (v : Word) : s.busy = false → inputNow s = some (.write 0 v) →
      AccessDoes s { s with inputs := l, cmdArgReg := v }
  /-- An illegal word, latched and flagged. -/
  | illegal (l : List Input) (op : Byte) (arg : Word) : s.busy = false →
      AccessDoes s (issueIllegal op arg { s with inputs := l })
  /-- A command. -/
  | command (l : List Input) (i : Instr) (u : State) : Issues s i → exec i { s with inputs := l } = .next u →
      AccessDoes s u

theorem hostWrite_does {s u : State} {idx : Nat} {v : Word} {l : List Input} (he : inputNow s = some (.write idx v))
    (h : hostWrite idx v { s with inputs := l } = .next u) : AccessDoes s u := by
  rcases hostWrite_cases h with ⟨-, -, rfl⟩ | ⟨hb, rfl, rfl⟩ | ⟨hb, rfl, hi⟩ | ⟨-, rfl⟩ | ⟨-, rfl⟩
  · exact .flags l s.readLog s.ill true
  · exact .argument l v hb he
  · rcases issue_cases hi with ⟨i, hd, hx⟩ | ⟨e, -, rfl⟩
    · exact .command l i u ⟨hb, v, he, hd⟩ hx
    · exact .illegal l (byte0 v) s.cmdArgReg hb
  · exact .flags l s.readLog _ _
  · exact .flags l s.readLog s.ill s.ovr

/-- A step without reset: the access, then the settle, then the tick (R216). -/
theorem step_access {s t : State} (h : step s = .next t) (hr : inputNow s ≠ some .reset) :
    ∃ u w, AccessDoes s u ∧ settle settleFuel u = some w ∧ t = tick w := by
  obtain ⟨l, hl⟩ := takeInput_snd s
  rcases step_cases h with ⟨he, -⟩ | ⟨-, hf⟩ | ⟨idx, -, hf⟩ | ⟨idx, v, u, he, hw, hf⟩
  · exact absurd he hr
  · obtain ⟨w, hw, ht⟩ := finishInstant_next hf
    exact ⟨_, w, hl ▸ .flags l s.readLog s.ill s.ovr, hw, ht⟩
  · obtain ⟨w, hw, ht⟩ := finishInstant_next hf
    exact ⟨_, w, hl ▸ .flags l _ s.ill s.ovr, hw, ht⟩
  · obtain ⟨w, hset, ht⟩ := finishInstant_next hf
    exact ⟨u, w, hostWrite_does he (hl ▸ hw), hset, ht⟩

/-- While `BUSY` an access reaches the flags only. -/
theorem AccessDoes.of_busy {s u : State} (h : AccessDoes s u) (hb : s.busy = true) :
    ∃ l log ill ovr, u = { s with inputs := l, readLog := log, ill := ill, ovr := ovr } := by
  cases h with
  | flags l log ill ovr => exact ⟨l, log, ill, ovr, rfl⟩
  | argument l v hn => simp [hb] at hn
  | illegal l op arg hn => simp [hb] at hn
  | command l i _ hi => exact absurd (hb.symm.trans hi.1) (by decide)

/-- An access changes a result register, the duty or `CMD_ARG` only by the command or the write whose it is. -/
theorem AccessDoes.results {s u : State} (h : AccessDoes s u) :
    (u.rCode = s.rCode ∨ ∃ a c, Issues s (.encodeRaw a c) ∧ u.rCode = encodeRaw a c) ∧
    (u.rDecode = s.rDecode ∨ ∃ w, Issues s (.decodeRaw w) ∧ u.rDecode = decodeResult (decodeRaw w)) ∧
    (u.duty = s.duty ∨ ∃ d, Issues s (.configure d) ∧ u.duty = legalDuty d) ∧
    (u.cmdArgReg = s.cmdArgReg ∨ s.busy = false ∧ inputNow s = some (.write 0 u.cmdArgReg)) := by
  cases h with
  | flags l log ill ovr => exact ⟨.inl rfl, .inl rfl, .inl rfl, .inl rfl⟩
  | argument l v hb he => exact ⟨.inl rfl, .inl rfl, .inl rfl, .inr ⟨hb, he⟩⟩
  | illegal l op arg hb => exact ⟨.inl rfl, .inl rfl, .inl rfl, .inl rfl⟩
  | command l i _ hi he =>
    rcases hj : joining i.opcode i.operand
    · obtain ⟨ticks, code, dec, duty, hx, hcode, hdec, hduty⟩ := exec_of_not_joining hj { s with inputs := l }
      cases he.symm.trans hx
      refine ⟨hcode.imp_right ?_, hdec.imp_right ?_, hduty.imp_right ?_, .inl rfl⟩
      · rintro ⟨a, c, rfl, hc⟩; exact ⟨a, c, hi, hc⟩
      · rintro ⟨w, rfl, hw⟩; exact ⟨w, hi, hw⟩
      · rintro ⟨d, rfl, hd⟩; exact ⟨d, hi, hd⟩
    · cases he.symm.trans (exec_of_joining hj { s with inputs := l })
      exact ⟨.inl (by simp), .inl (by simp), .inl (by simp), .inl (by simp)⟩

/-! ## The operations as record updates -/

/-- All that entering an interval changes (R153). -/
theorem enter_eq (ph : Phase) (i : BitVec 5) (s : State) :
    ∃ tr, enter ph i s = { s with
      seqPhase := ph, bitIdx := i, ivlCnt := toWord (dur s.params ph i s.frame)
      durAcc := s.durAcc + toWord (dur s.params ph i s.frame)
      carrierValue := if isMark ph = true then onValue s else s.carrierValue, trace := tr } := by
  by_cases hm : isMark ph = true
  · exact ⟨_, by simp only [enter, carrierIfMark, hm, if_true]; rfl⟩
  · exact ⟨s.trace, by simp only [enter, carrierIfMark, hm, if_false, Bool.false_eq_true]; rfl⟩

/-- All that the start of a frame changes: its first interval is a mark (R153). -/
theorem startFrame_eq (o : Owner) (k : FrameKind) (s : State) :
    ∃ tr, startFrame o k s = { s with
      seqOwner := o, seqPhase := firstPhase k, bitIdx := 0
      ivlCnt := toWord (dur s.params (firstPhase k) 0 s.frame)
      durAcc := toWord (dur s.params (firstPhase k) 0 s.frame), carrierValue := onValue s, trace := tr } := by
  obtain ⟨tr, he⟩ := enter_eq (firstPhase k) 0 { s with seqOwner := o, durAcc := 0 }
  refine ⟨tr, he.trans ?_⟩
  cases k <;> simp [isMark, firstPhase, onValue]

/-- All that a write to the setter in a mark changes. -/
theorem carrierIfMark_eq (ph : Phase) (v : Nat) (s : State) :
    ∃ tr, carrierIfMark ph v s =
      { s with carrierValue := if isMark ph = true then v else s.carrierValue, trace := tr } := by
  by_cases hm : isMark ph = true
  · exact ⟨_, by simp only [carrierIfMark, hm, if_true]; rfl⟩
  · exact ⟨s.trace, by simp only [carrierIfMark, hm, if_false, Bool.false_eq_true]⟩

/-- All that the end of a foreground frame changes: the results, and the session of a `SEND` with auto-repeat (R183,
R213). -/
theorem fgComplete_eq (d : Word) (s : State) :
    ((s.cmdOp = opSend ∧ s.autoRpt = true) ∧ fgComplete d s = { s with
      rDuration := d, fgStage := .idle, busy := false, rptState := .repeating
      rptWait := toWord (satSub s.params.repeatPeriod d.toNat) }) ∨
      (¬(s.cmdOp = opSend ∧ s.autoRpt = true) ∧ fgComplete d s = { s with
        rDuration := d, fgStage := .idle, busy := false }) := by
  by_cases ha : s.cmdOp = opSend ∧ s.autoRpt = true
  · exact .inl ⟨ha, by simp [fgComplete, startSessionIfAuto, startSession, ha]⟩
  · exact .inr ⟨ha, by simp only [fgComplete, startSessionIfAuto, ha, if_false]⟩

/-- Outside a session, one is on after the completion exactly where a `SEND` asked for auto-repeat (R183). -/
theorem fgComplete_repeating_iff {d : Word} {s : State} (h : s.rptState ≠ .repeating) :
    (fgComplete d s).rptState = .repeating ↔ s.cmdOp = opSend ∧ s.autoRpt = true := by
  rcases fgComplete_eq d s with ⟨ha, he⟩ | ⟨ha, he⟩ <;> rw [he]
  · exact iff_of_true rfl ha
  · exact iff_of_false h ha

/-- What the end of the join starts, by the command latched: the frame that command asks for, nothing for `STOP_REPEAT`
(R212). -/
theorem fgJoinDone_command {s : State} (h : joining s.cmdOp s.cmdArg = true) :
    (∃ k F, s.cmdOp ≠ opStopRepeat ∧
      ((s.cmdOp = opSendBytes → inFullFrame (firstPhase k) = true ∧ F = s.cmdArg) ∧
        (s.cmdOp = opSend → inFullFrame (firstPhase k) = true ∧ F = sendFrame s.cmdArg) ∧
          (s.cmdOp = opSendRaw → inFullFrame (firstPhase k) = true ∧ F = sendRawFrame s.cmdArg) ∧
            (s.cmdOp = opSendRepeatFrame → inRepeatFrame (firstPhase k) = true)) ∧
      fgJoinDone s = fgStart k { s with frame := F }) ∨
      (s.cmdOp = opStopRepeat ∧ fgJoinDone s = { s with fgStage := .idle, busy := false }) := by
  have other {a b : Byte} {P : Prop} (ha : s.cmdOp = a) (hab : a ≠ b) : s.cmdOp = b → P :=
    fun hb => absurd (ha.symm.trans hb) hab
  unfold fgJoinDone
  split
  · next hop =>
    exact .inl ⟨.full, s.cmdArg, other hop (by decide),
      ⟨fun _ => ⟨rfl, rfl⟩, other hop (by decide), other hop (by decide), other hop (by decide)⟩, rfl⟩
  split
  · next hop =>
    exact .inl ⟨.full, sendFrame s.cmdArg, other hop (by decide),
      ⟨other hop (by decide), fun _ => ⟨rfl, rfl⟩, other hop (by decide), other hop (by decide)⟩, rfl⟩
  split
  · next hop =>
    exact .inl ⟨.full, sendRawFrame s.cmdArg, other hop (by decide),
      ⟨other hop (by decide), other hop (by decide), fun _ => ⟨rfl, rfl⟩, other hop (by decide)⟩, rfl⟩
  split
  · next hop =>
    exact .inl ⟨.repeatFrame, s.frame, other hop (by decide),
      ⟨other hop (by decide), other hop (by decide), other hop (by decide), fun _ => rfl⟩, rfl⟩
  · next h1 h2 h3 h4 => exact .inr ⟨by simpa [joining, h1, h2, h3, h4] using h, rfl⟩

/-- The duty a `CONFIGURE` stores is legal, whatever its operand (R230). -/
theorem legalDuty_bounds (d : Byte) : 1 ≤ (legalDuty d).toNat ∧ (legalDuty d).toNat ≤ 100 := by
  unfold legalDuty
  split
  · next h =>
    rw [BitVec.toNat_setWidth, Nat.mod_eq_of_lt (by omega)]
    exact h
  · decide

/-- All a join changes: FG waits in it, and a session turns to STOPPING with a latency within its bound, 0 inside a
background frame (R205, R210, D12). -/
theorem beginJoin_cases (s : State) :
    (s.rptState ≠ .repeating ∧ beginJoin s = { s with busy := true, fgStage := .join }) ∨
      (s.rptState = .repeating ∧ ∃ lat n, lat.toNat ≤ s.params.cancelLatencyMax ∧
        (bgEmitting s = true → lat = 0) ∧
        beginJoin s = { s with
          busy := true, fgStage := .join, rptState := .stopping, cancelLat := lat, draws := n }) := by
  rcases requestCancel_cases { s with busy := true, fgStage := .join } with ⟨hr, he⟩ | ⟨hr, he⟩
  · refine .inr ⟨hr, _, _, ?_, fun hbg => ?_, he⟩
    · exact (Nat.mod_le _ _).trans (cancelLatency_le _)
    · exact congrArg toWord (cancelLatency_of_bgEmitting (s := { s with busy := true, fgStage := .join }) hbg)
  · exact .inl ⟨hr, he⟩

/-- No zero-time transition changes the duty (R230). -/
theorem zeroTime_duty {s s' : State} (h : zeroTime s = some s') : s'.duty = s.duty := by
  rcases zeroTime_cases h with ⟨-, rfl⟩ | ⟨-, -, rfl⟩ | ⟨-, -, rfl⟩ | ⟨-, -, rfl⟩
  · rcases intervalEnd_cases s with ⟨ph, i, -, he⟩ | ⟨-, he⟩ <;> simp [he]
  · rfl
  · rcases fgJoinDone_cases s with ⟨k, F, he⟩ | he <;> simp [he, fgStart]
  · simp [bgFire]

/-! ## What only the host reaches

Seven elements are read and written by the host's accesses only: no transition and no tick reads or writes them. So the
rest of an instant commutes with setting them, and leaves them as they are. -/

/-- `s` with the elements only the host reaches taken from `h`. -/
def withHostSide (h s : State) : State :=
  { s with
    cmdArgReg := h.cmdArgReg
    rCode := h.rCode
    rDecode := h.rDecode
    ill := h.ill
    ovr := h.ovr
    inputs := h.inputs
    readLog := h.readLog }

theorem withHostSide_self (s : State) : withHostSide s s = s := rfl

section
variable (h s : State)

theorem carrierIfMark_withHostSide (ph : Phase) (v : Nat) :
    carrierIfMark ph v (withHostSide h s) = withHostSide h (carrierIfMark ph v s) := by
  unfold carrierIfMark
  split <;> rfl

theorem enter_withHostSide (ph : Phase) (i : BitVec 5) :
    enter ph i (withHostSide h s) = withHostSide h (enter ph i s) :=
  carrierIfMark_withHostSide h (loadInterval ph i s) ph (onValue s)

theorem startFrame_withHostSide (o : Owner) (k : FrameKind) :
    startFrame o k (withHostSide h s) = withHostSide h (startFrame o k s) :=
  enter_withHostSide h { s with seqOwner := o, durAcc := 0 } (firstPhase k) 0

theorem fgComplete_withHostSide (d : Word) :
    fgComplete d (withHostSide h s) = withHostSide h (fgComplete d s) := by
  rcases fgComplete_eq d s with ⟨ha, he⟩ | ⟨ha, he⟩ <;>
    rcases fgComplete_eq d (withHostSide h s) with ⟨ha', he'⟩ | ⟨ha', he'⟩
  · rw [he, he']; rfl
  · exact absurd ha ha'
  · exact absurd ha' ha
  · rw [he, he']; rfl

theorem frameEnd_withHostSide : frameEnd (withHostSide h s) = withHostSide h (frameEnd s) := by
  rcases ho : s.seqOwner
  · simpa [frameEnd, withHostSide, ho] using fgComplete_withHostSide h { s with seqPhase := .idle } s.durAcc
  · simp [frameEnd, withHostSide, ho, bgFrameDone]

theorem advance_withHostSide : advance (withHostSide h s) = withHostSide h (advance s) := by
  rcases hn : nextPosition s.seqPhase s.bitIdx with _ | ⟨ph, i⟩
  · simpa [advance, withHostSide, hn] using frameEnd_withHostSide h s
  · simpa [advance, withHostSide, hn] using enter_withHostSide h s ph i

theorem intervalEnd_withHostSide : intervalEnd (withHostSide h s) = withHostSide h (intervalEnd s) :=
  (congrArg advance (carrierIfMark_withHostSide h s s.seqPhase 0)).trans (advance_withHostSide h _)

theorem fgStart_withHostSide (k : FrameKind) :
    fgStart k (withHostSide h s) = withHostSide h (fgStart k s) :=
  startFrame_withHostSide h { s with fgStage := .emit } .fg k

theorem fgJoinDone_withHostSide : fgJoinDone (withHostSide h s) = withHostSide h (fgJoinDone s) := by
  unfold fgJoinDone
  simp only [apply_ite (withHostSide h), ← fgStart_withHostSide]
  rfl

theorem zeroTime_withHostSide : zeroTime (withHostSide h s) = (zeroTime s).map (withHostSide h) := by
  unfold zeroTime
  simp only [apply_ite (Option.map (withHostSide h)), Option.map_some, Option.map_none, intervalEnd_withHostSide,
    fgJoinDone_withHostSide, bgFire, startFrame_withHostSide]
  rfl

end

theorem settle_withHostSide (h : State) (n : Nat) (s : State) :
    settle n (withHostSide h s) = (settle n s).map (withHostSide h) := by
  induction n generalizing s with
  | zero =>
    simp only [settle, zeroTime_withHostSide]
    cases zeroTime s <;> rfl
  | succ n ih =>
    simp only [settle, zeroTime_withHostSide]
    cases zeroTime s with
    | none => rfl
    | some s' => exact ih s'

/-- The rest of an instant commutes with setting what only the host reaches. -/
theorem finishInstant_withHostSide {s t : State} (h : State) (hf : finishInstant s = .next t) :
    finishInstant (withHostSide h s) = .next (withHostSide h t) := by
  obtain ⟨u, hu, rfl⟩ := finishInstant_next hf
  simp only [finishInstant, settle_withHostSide, hu]
  rfl

/-- The rest of an instant goes the same way whatever reads have returned. -/
theorem finishInstant_withReadLog {s t : State} (log : List ReadRecord) (hf : finishInstant s = .next t) :
    finishInstant { s with readLog := log } = .next { t with readLog := log } := by
  have hkeep : t = withHostSide s t :=
    Host.Outcome.next.inj (hf.symm.trans (finishInstant_withHostSide s hf))
  have hlog : { t with readLog := log } = withHostSide { s with readLog := log } t := by rw [hkeep]; rfl
  rw [hlog]
  exact finishInstant_withHostSide { s with readLog := log } hf

/-- The settle leaves what only the host reaches as it is. -/
theorem settle_keeps_hostSide {n : Nat} {s u : State} (h : settle n s = some u) : withHostSide s u = u := by
  have hcomm := settle_withHostSide s n s
  rw [withHostSide_self, h] at hcomm
  exact (Option.some.inj hcomm).symm

/-! ## What host reads return (R33, R64) -/

theorem hostRead_reserved {idx : Nat} (h : 7 ≤ idx) (s : State) : hostRead idx s = 0 := by
  obtain ⟨n, rfl⟩ := Nat.exists_eq_add_of_le' h
  rfl

/-! ## The fields of `STATUS` (R33) -/

/-- The bits of `STATUS`, field by field from `BUSY` up. -/
theorem getLsbD_statusWord (s : State) (i : Nat) :
    (statusWord s).getLsbD i =
      if i < 1 then (BitVec.ofBool s.busy).getLsbD i
      else if i - 1 < 2 then (rptCode s.rptState).getLsbD (i - 1)
      else if i - 3 < 1 then (BitVec.ofBool (markFlag s)).getLsbD (i - 3)
      else if i - 4 < 1 then (BitVec.ofBool s.ill).getLsbD (i - 4)
      else if i - 5 < 1 then (BitVec.ofBool s.ovr).getLsbD (i - 5)
      else if i - 6 < 1 then (ownerCode s.seqOwner).getLsbD (i - 6)
      else if i - 7 < 4 then (phaseCode s.seqPhase).getLsbD (i - 7)
      else if i - 11 < 5 then s.bitIdx.getLsbD (i - 11) else (0 : BitVec 16).getLsbD (i - 16) := by
  have hbusy : (statusWord s).getLsbD i = if i < 1 then (BitVec.ofBool s.busy).getLsbD i else
      ((0 : BitVec 16) ++ s.bitIdx ++ phaseCode s.seqPhase ++ ownerCode s.seqOwner ++ BitVec.ofBool s.ovr ++
        BitVec.ofBool s.ill ++ BitVec.ofBool (markFlag s) ++ rptCode s.rptState).getLsbD (i - 1) :=
    BitVec.getLsbD_append.trans (by split <;> rfl)
  rw [hbusy]
  simp only [BitVec.getLsbD_append]
  simp only [Nat.sub_sub, Nat.reduceAdd]

/-- A field of a word is the value whose bits stand there. -/
theorem extractLsb'_eq_of_getLsbD {m n k : Nat} {w : BitVec m} {x : BitVec n}
    (h : ∀ i, i < n → w.getLsbD (k + i) = x.getLsbD i) : w.extractLsb' k n = x := by
  refine BitVec.eq_of_getLsbD_eq fun i hi => ?_
  rw [BitVec.getLsbD_extractLsb', h i hi]
  simp [hi]

theorem statusWord_rptState (s : State) : (statusWord s).extractLsb' 1 2 = rptCode s.rptState :=
  extractLsb'_eq_of_getLsbD fun i hi => by
    rw [getLsbD_statusWord]
    simp (disch := omega) only [if_neg, if_pos, Nat.add_sub_cancel_left, hi, if_true]

theorem statusWord_seqPhase (s : State) : (statusWord s).extractLsb' 7 4 = phaseCode s.seqPhase :=
  extractLsb'_eq_of_getLsbD fun i hi => by
    rw [getLsbD_statusWord]
    simp (disch := omega) only [if_neg, if_pos, Nat.add_sub_cancel_left, hi, if_true]

theorem statusWord_bitIdx (s : State) : (statusWord s).extractLsb' 11 5 = s.bitIdx :=
  extractLsb'_eq_of_getLsbD fun i hi => by
    rw [getLsbD_statusWord]
    simp (disch := omega) only [if_neg, Nat.add_sub_cancel_left, hi, if_true]

theorem statusWord_high (s : State) : (statusWord s).extractLsb' 16 16 = 0 :=
  extractLsb'_eq_of_getLsbD fun i hi => by
    rw [getLsbD_statusWord]
    simp (disch := omega) only [if_neg, Nat.add_sub_cancel_left]

theorem statusWord_owner (s : State) : (statusWord s).getLsbD 6 = decide (s.seqOwner = .bg) := by
  rw [getLsbD_statusWord]
  cases s.seqOwner <;> rfl

end Sys2Proof.Machine

namespace Sys2Proof.Safety

open Sys2Proof.Machine

/-! ## The invariant inside an instant

`Inv` holds between instants. Inside one, a join may have lost its session and not yet ended, and an interval may not
yet have lost its first tick; `Settling` is `Inv` with those two points weakened. An access takes `Inv` to `Settling`,
every zero-time transition keeps `Settling`, and the tick after the last of them gives `Inv` back. -/

/-- `Inv` as it holds inside an instant. -/
structure Settling (s : State) : Prop where
  params : s.params.Valid
  writer : OneWriter s
  joinSession : s.fgStage = .join → s.rptState ≠ .repeating
  stopping : StoppingMeansJoin s
  marks : CarrierOnlyInMarks s
  duty : DutyLegal s
  full : FullFrameIsForeground s
  busy : BusyIsStage s
  latched : LatchedCommand s
  frame : FrameOfCommand s
  interval : s.seqPhase ≠ .idle → s.ivlCnt.toNat ≤ dur s.params s.seqPhase s.bitIdx s.frame
  started : s.seqPhase ≠ .idle → s.durAcc = toWord (startedDuration s.params s.frame s.seqPhase s.bitIdx)
  wait : s.rptWait.toNat ≤ s.params.repeatPeriod
  latencyBound : s.cancelLat.toNat ≤ s.params.cancelLatencyMax
  latency : LatencyOnlyWhileWaiting s
  carrier : CarrierInRange s

theorem Inv.settling {s : State} (h : Inv s) : Settling s := by
  obtain ⟨hone, hemit, hjoin, hstop, hmarks, hduty, hfull⟩ := h.guarantees
  obtain ⟨hcnt, hacc, hwait, hlat⟩ := h.counters
  exact {
    params := h.params
    writer := ⟨hone, hemit⟩
    joinSession := fun hj => by simp [hjoin hj]
    stopping := hstop
    marks := hmarks
    duty := hduty
    full := hfull
    busy := h.busy
    latched := h.latched
    frame := h.frame
    interval := fun hne => (hcnt hne).le
    started := hacc
    wait := hwait
    latencyBound := hlat
    latency := h.latency
    carrier := h.carrier }

/-- A foreground frame goes out with FG emitting and no session on (R42 points 1 and 2). -/
theorem OneWriter.foreground {s : State} (h : OneWriter s) (hne : s.seqPhase ≠ .idle) (ho : s.seqOwner = .fg) :
    s.fgStage = .emit ∧ s.rptState = .idle := by
  obtain ⟨⟨hfg, -⟩, hemit⟩ := h
  exact ⟨hemit.2 ⟨hne, ho⟩, hfg hne ho⟩

/-- A background frame goes out in a session and without FG emitting (R42 point 1). -/
theorem OneWriter.background {s : State} (h : OneWriter s) (hne : s.seqPhase ≠ .idle) (ho : s.seqOwner = .bg) :
    s.rptState ≠ .idle ∧ s.fgStage ≠ .emit := by
  obtain ⟨⟨-, hbg⟩, -⟩ := h
  exact hbg hne ho

/-! ### The carrier (R42 point 5, R71, R150) -/

/-- `ON_VALUE` is a value the setter accepts. -/
theorem onValue_le_top {s : State} (h : DutyLegal s) : onValue s ≤ s.params.top := by
  unfold onValue
  exact Nat.div_le_of_le_mul (by rw [Nat.mul_comm 100]; exact Nat.mul_le_mul_left _ h.2)

/-- With `TOP` at least 100 a mark is not dark. -/
theorem onValue_ne_zero {s : State} (h : DutyLegal s) (htop : 100 ≤ s.params.top) : onValue s ≠ 0 := by
  unfold onValue
  have hmul : 100 * 1 ≤ s.params.top * s.duty.toNat := Nat.mul_le_mul htop h.1
  have := Nat.div_le_div_right (c := 100) hmul
  omega

/-- A state whose carrier is `ON_VALUE` in a mark and 0 elsewhere is as point 5 says. -/
theorem carrierOnlyInMarks_of_eq {s : State} (hd : DutyLegal s)
    (h : s.carrierValue = if isMark s.seqPhase = true then onValue s else 0) :
    CarrierOnlyInMarks s ∧ CarrierInRange s := by
  have hle := onValue_le_top hd
  by_cases hm : isMark s.seqPhase = true
  · rw [if_pos hm] at h
    exact ⟨⟨fun _ => hm, fun _ _ => h, fun htop _ => h ▸ onValue_ne_zero hd htop⟩, h.le.trans hle⟩
  · rw [if_neg hm] at h
    exact ⟨⟨fun hne => absurd h hne, fun _ hm' => absurd hm' hm, fun _ hm' => absurd hm' hm⟩, by omega⟩

/-- When an interval ends, the mark that may end with it leaves the carrier off. -/
theorem Settling.carrier_off {s : State} (h : Settling s) : (carrierIfMark s.seqPhase 0 s).carrierValue = 0 := by
  by_cases hm : isMark s.seqPhase = true
  · simp [carrierIfMark, hm]
  · obtain ⟨hon, -, -⟩ := h.marks
    simpa [carrierIfMark, hm] using fun hne => hm (hon hne)

/-! ### An access -/

/-- Where FG is not emitting, a frame in progress is BG's. -/
theorem Settling.idle_of_foreground {s : State} (h : Settling s) (hi : s.fgStage ≠ .emit) (ho : s.seqOwner = .fg) :
    s.seqPhase = .idle := by
  by_contra hne
  exact hi (h.writer.foreground hne ho).1

theorem Settling.latch {s : State} (h : Settling s) (hi : s.fgStage = .idle) (op : Byte) (arg : Word) {auto : Bool}
    (hauto : auto = true → op = opSend) : Settling (latch op arg auto s) :=
  { h with
    latched := ⟨fun hne => absurd hi hne, fun he => absurd (hi.symm.trans he) (by decide), hauto⟩
    frame := fun he => absurd (hi.symm.trans he) (by decide) }

/-- A new duty changes no mark in progress, and a mark in progress then is BG's (R231). -/
theorem Settling.withDuty {s : State} (h : Settling s) (hi : s.fgStage = .idle) {d : BitVec 7}
    (hd : 1 ≤ d.toNat ∧ d.toNat ≤ 100) : Settling { s with duty := d } := by
  obtain ⟨hoff, -, hlit⟩ := h.marks
  refine { h with duty := hd, marks := ⟨hoff, fun ho hm => ?_, hlit⟩ }
  have hidle := h.idle_of_foreground (by simp [hi]) ho
  exact absurd hm (by simp [hidle, isMark])

/-- A join begins while FG is idle; the session it meets turns to STOPPING. -/
theorem Settling.beginJoin {s : State} (h : Settling s) (hi : s.fgStage = .idle)
    (hj : joining s.cmdOp s.cmdArg = true) : Settling (beginJoin s) := by
  have hb : s.busy = false := Bool.eq_false_iff.2 fun hb => h.busy.1 hb hi
  have hns : s.rptState ≠ .stopping := fun hr => absurd (hi.symm.trans (h.stopping hr)) (by decide)
  have hwriter : OneWriter (Machine.beginJoin s) :=
    h.writer.access h.busy (accessKeeps_beginJoin hb s.cmdOp s.cmdArg s.autoRpt)
  obtain ⟨-, -, hauto⟩ := h.latched
  rcases beginJoin_cases s with ⟨hr, he⟩ | ⟨-, lat, n, hle, hzero, he⟩ <;> rw [he] at hwriter ⊢
  · exact { h with
      writer := hwriter
      joinSession := fun _ => hr
      stopping := fun hs => absurd hs hns
      busy := by simp [BusyIsStage]
      latched := ⟨fun _ => hj, nofun, hauto⟩
      frame := nofun }
  · exact { h with
      writer := hwriter
      joinSession := nofun
      stopping := fun _ => rfl
      busy := by simp [BusyIsStage]
      latched := ⟨fun _ => hj, nofun, hauto⟩
      frame := nofun
      latencyBound := hle
      latency := fun _ => hzero }

/-- What an access leaves of the invariant. -/
theorem settling_of_access {s u : State} (hs : Inv s) (h : AccessDoes s u) : Settling u := by
  have hset := hs.settling
  have hidle : s.busy = false → s.fgStage = .idle := fun hb => by
    by_contra hne
    exact absurd (hb.symm.trans (hs.busy.2 hne)) (by decide)
  cases h with
  | flags l log ill ovr => exact { hset with }
  | argument l v hb => exact { hset with }
  | illegal l op arg hb => exact { hset.latch (hidle hb) op arg (auto := false) nofun with }
  | command l i _ hi he =>
    have hl : Settling { s with inputs := l } := { hset with }
    have hstage := hidle hi.1
    rcases hj : joining i.opcode i.operand
    · obtain ⟨ticks, code, dec, duty, hx, -, -, hduty⟩ := exec_of_not_joining hj { s with inputs := l }
      cases he.symm.trans hx
      have hlegal : 1 ≤ duty.toNat ∧ duty.toNat ≤ 100 := by
        rcases hduty with rfl | ⟨d, -, rfl⟩
        · exact hs.settling.duty
        · exact legalDuty_bounds d
      exact { (hl.latch hstage i.opcode i.operand (auto := false) nofun).withDuty hstage hlegal with }
    · cases he.symm.trans (exec_of_joining hj { s with inputs := l })
      exact (hl.latch hstage _ _ opcode_of_startsSession).beginJoin hstage hj

/-! ### The zero-time transitions -/

/-- What the end of an interval does where the carrier is as point 5 says: the next interval, the completion of FG's
frame, or BG's new wait (R153, R154). -/
theorem Settling.intervalEnd_eq {s : State} (h : Settling s) :
    (∃ ph i tr, nextPosition s.seqPhase s.bitIdx = some (ph, i) ∧ intervalEnd s = { s with
      seqPhase := ph, bitIdx := i, ivlCnt := toWord (dur s.params ph i s.frame)
      durAcc := s.durAcc + toWord (dur s.params ph i s.frame)
      carrierValue := if isMark ph = true then onValue s else 0, trace := tr }) ∨
    (nextPosition s.seqPhase s.bitIdx = none ∧ s.seqOwner = .fg ∧ ∃ tr, intervalEnd s =
      fgComplete s.durAcc { s with seqPhase := .idle, carrierValue := 0, trace := tr }) ∨
    (nextPosition s.seqPhase s.bitIdx = none ∧ s.seqOwner = .bg ∧ ∃ tr, intervalEnd s =
      bgFrameDone s.durAcc { s with seqPhase := .idle, carrierValue := 0, trace := tr }) := by
  obtain ⟨tr, hc⟩ : ∃ tr, carrierIfMark s.seqPhase 0 s = { s with carrierValue := 0, trace := tr } := by
    obtain ⟨tr, hc⟩ := carrierIfMark_eq s.seqPhase 0 s
    refine ⟨tr, ?_⟩
    have hoff := h.carrier_off
    rw [hc] at hoff ⊢
    rw [show (if isMark s.seqPhase = true then 0 else s.carrierValue) = 0 from hoff]
  rcases intervalEnd_cases s with ⟨ph, i, hn, he⟩ | ⟨hn, he⟩ <;> rw [hc] at he
  · obtain ⟨tr', hen⟩ := enter_eq ph i { s with carrierValue := 0, trace := tr }
    exact .inl ⟨ph, i, tr', hn, he.trans hen⟩
  · rcases frameEnd_cases { s with carrierValue := 0, trace := tr } with ⟨ho, hf⟩ | ⟨ho, hf⟩
    · exact .inr (.inl ⟨hn, ho, tr, he.trans hf⟩)
    · exact .inr (.inr ⟨hn, ho, tr, he.trans hf⟩)

/-- The next interval of a frame: the frame goes on, its sum grows by the interval (R30, R153). -/
theorem Settling.nextInterval {s : State} (h : Settling s) {ph : Phase} {i : BitVec 5} (hne : s.seqPhase ≠ .idle)
    (hn : nextPosition s.seqPhase s.bitIdx = some (ph, i)) (tr : List (Nat × Nat)) :
    Settling { s with
      seqPhase := ph, bitIdx := i, ivlCnt := toWord (dur s.params ph i s.frame)
      durAcc := s.durAcc + toWord (dur s.params ph i s.frame)
      carrierValue := if isMark ph = true then onValue s else 0, trace := tr } := by
  have hph := nextPosition_ne_idle hn
  obtain ⟨hfull, hrep⟩ := nextPosition_same_frame hn
  obtain ⟨hmarks, hcarrier⟩ := carrierOnlyInMarks_of_eq (s := { s with
    seqPhase := ph, carrierValue := if isMark ph = true then onValue s else 0 }) h.duty rfl
  exact { h with
    writer := by simpa [OneWriter, SingleWriter, EmitIsForeground, hne, hph] using h.writer
    marks := hmarks
    full := fun hf => h.full (hfull ▸ hf)
    frame := by simpa only [FrameOfCommand, hfull, hrep] using h.frame
    interval := fun _ => Nat.mod_le _ _
    started := fun _ => by
      rw [h.started hne, startedDuration_next _ _ hn]
      exact (BitVec.ofNat_add _ _).symm
    latency := fun hs hbg => h.latency hs ((bgEmitting_iff s).2 ⟨hne, ((bgEmitting_iff _).1 hbg).2⟩)
    carrier := hcarrier }

/-- FG's frame completes: FG is idle, and a session is on after a `SEND` with auto-repeat (R183, R213). -/
theorem Settling.foregroundFrameEnd {s : State} (h : Settling s) (hne : s.seqPhase ≠ .idle) (ho : s.seqOwner = .fg)
    (tr : List (Nat × Nat)) :
    Settling (fgComplete s.durAcc { s with seqPhase := .idle, carrierValue := 0, trace := tr }) := by
  obtain ⟨-, hr⟩ := h.writer.foreground hne ho
  obtain ⟨-, -, hauto⟩ := h.latched
  obtain ⟨hmarks, hcarrier⟩ :=
    carrierOnlyInMarks_of_eq (s := { s with seqPhase := .idle, carrierValue := 0 }) h.duty rfl
  have hdone : ∀ (r : RptState) (w : Word), r ≠ .stopping → w.toNat ≤ s.params.repeatPeriod →
      Settling { s with
        seqPhase := .idle, carrierValue := 0, trace := tr, rDuration := s.durAcc, fgStage := .idle, busy := false
        rptState := r, rptWait := w } := fun r w hr hw => { h with
    writer := oneWriter_of_idle rfl nofun
    joinSession := nofun
    stopping := fun hs => absurd hs hr
    marks := hmarks
    full := nofun
    busy := by simp [BusyIsStage]
    latched := ⟨fun hn => absurd rfl hn, nofun, hauto⟩
    frame := nofun
    interval := fun hn => absurd rfl hn
    started := fun hn => absurd rfl hn
    wait := hw
    latency := fun hs => absurd hs hr
    carrier := hcarrier }
  rcases fgComplete_eq s.durAcc { s with seqPhase := .idle, carrierValue := 0, trace := tr }
    with ⟨-, he⟩ | ⟨-, he⟩ <;> rw [he]
  · exact hdone _ _ nofun ((Nat.mod_le _ _).trans (Nat.sub_le _ _))
  · exact hdone s.rptState s.rptWait (by simp [hr]) h.wait

/-- BG's frame ends, and its wait is loaded (R204). -/
theorem Settling.backgroundFrameEnd {s : State} (h : Settling s) (hne : s.seqPhase ≠ .idle) (ho : s.seqOwner = .bg)
    (tr : List (Nat × Nat)) :
    Settling (bgFrameDone s.durAcc { s with seqPhase := .idle, carrierValue := 0, trace := tr }) := by
  obtain ⟨-, hemit⟩ := h.writer.background hne ho
  obtain ⟨hmarks, hcarrier⟩ :=
    carrierOnlyInMarks_of_eq (s := { s with seqPhase := .idle, carrierValue := 0 }) h.duty rfl
  exact { h with
    writer := oneWriter_of_idle rfl hemit
    marks := hmarks
    full := nofun
    frame := fun he => absurd he hemit
    interval := fun hn => absurd rfl hn
    started := fun hn => absurd rfl hn
    wait := (Nat.mod_le _ _).trans (Nat.sub_le _ _)
    latency := nofun
    carrier := hcarrier }

theorem Settling.intervalEnd {s : State} (h : Settling s) (he : intervalEndEnabled s = true) :
    Settling (intervalEnd s) := by
  obtain ⟨hne, -⟩ := (intervalEndEnabled_iff s).1 he
  rcases h.intervalEnd_eq with ⟨ph, i, tr, hn, hi⟩ | ⟨-, ho, tr, hi⟩ | ⟨-, ho, tr, hi⟩ <;> rw [hi]
  · exact h.nextInterval hne hn tr
  · exact h.foregroundFrameEnd hne ho tr
  · exact h.backgroundFrameEnd hne ho tr

/-- The session ends while BG is between frames (R207). -/
theorem Settling.bgStop {s : State} (h : Settling s) (he : bgStopEnabled s = true) : Settling (bgStop s) := by
  obtain ⟨hr, hbg, -⟩ := (bgStopEnabled_iff s).1 he
  have hidle := h.writer.idle_of_session hbg (by simp [hr])
  exact { h with
    writer := oneWriter_of_idle hidle (h.writer.not_emit hidle)
    joinSession := nofun
    stopping := nofun
    wait := Nat.zero_le _
    latency := nofun }

/-- BG starts a repeat frame in its session (R204). -/
theorem Settling.bgFire {s : State} (h : Settling s) (he : bgFireEnabled s = true) : Settling (bgFire s) := by
  obtain ⟨hr, hidle, -⟩ := (bgFireEnabled_iff s).1 he
  have hemit := h.writer.not_emit hidle
  have hwriter := h.writer.bgFire hidle hr
  obtain ⟨tr, hs⟩ := startFrame_eq .bg .repeatFrame s
  rw [Machine.bgFire, hs] at hwriter ⊢
  obtain ⟨⟨hoff, -, hlit⟩, hcarrier⟩ := carrierOnlyInMarks_of_eq (s := { s with
    seqPhase := .rptLeadMark, carrierValue := onValue s }) h.duty rfl
  exact { h with
    writer := hwriter
    marks := ⟨hoff, nofun, hlit⟩
    full := nofun
    frame := fun he => absurd he hemit
    interval := fun _ => Nat.mod_le _ _
    started := fun _ => rfl
    latency := fun hs => absurd (hr.symm.trans hs) (by decide)
    carrier := hcarrier }

/-- A join that has ended outside a session starts its command's frame, or, for `STOP_REPEAT`, completes (R212). -/
theorem Settling.fgJoinDone {s : State} (h : Settling s) (he : fgJoinDoneEnabled s = true) :
    Settling (fgJoinDone s) := by
  obtain ⟨hjoin, hr, hlatched⟩ := (fgJoinDoneEnabled_iff s).1 he
  have hidle := h.writer.idle_of_join hjoin hr
  have hwriter := h.writer.fgJoinDone hjoin hr
  obtain ⟨-, -, hauto⟩ := h.latched
  rcases fgJoinDone_command hlatched with ⟨k, F, hstop, hframe, hj⟩ | ⟨-, hj⟩ <;> rw [hj] at hwriter ⊢
  · obtain ⟨tr, hs⟩ := startFrame_eq .fg k { s with frame := F, fgStage := .emit }
    rw [fgStart, hs] at hwriter ⊢
    obtain ⟨⟨hoff, -, hlit⟩, hcarrier⟩ := carrierOnlyInMarks_of_eq (s := { s with
      seqPhase := firstPhase k, carrierValue := onValue s }) h.duty (by cases k <;> rfl)
    exact { h with
      writer := hwriter
      joinSession := nofun
      stopping := fun hs => absurd (hr.symm.trans hs) (by decide)
      marks := ⟨hoff, fun _ _ => rfl, hlit⟩
      full := fun _ => rfl
      busy := by simpa [BusyIsStage, hjoin] using h.busy
      latched := ⟨fun _ => hlatched, fun _ => hstop, hauto⟩
      frame := fun _ => hframe
      interval := fun _ => Nat.mod_le _ _
      started := fun _ => congrArg toWord (startedDuration_firstPhase _ _ k).symm
      latency := fun hs => absurd (hr.symm.trans hs) (by decide)
      carrier := hcarrier }
  · exact { h with
      writer := hwriter
      joinSession := nofun
      stopping := fun hs => absurd (hr.symm.trans hs) (by decide)
      busy := by simp [BusyIsStage]
      latched := ⟨fun hn => absurd rfl hn, nofun, hauto⟩
      frame := nofun }

theorem Settling.zeroTime {s s' : State} (h : Settling s) (hz : zeroTime s = some s') : Settling s' := by
  rcases zeroTime_cases hz with ⟨he, rfl⟩ | ⟨-, he, rfl⟩ | ⟨-, he, rfl⟩ | ⟨-, he, rfl⟩
  · exact h.intervalEnd he
  · exact h.bgStop he
  · exact h.fgJoinDone he
  · exact h.bgFire he

/-! ### The tick and the reset -/

/-- With nothing enabled any more, a join still waits for its session, and the tick takes an interval below its load. -/
theorem Settling.tick {s : State} (h : Settling s) (hq : Machine.zeroTime s = none) : Inv (tick s) := by
  obtain ⟨hrun, -, hjoin, -⟩ := (zeroTime_none_iff s).1 hq
  have hjoinStopping : JoinMeansStopping s := fun hj => by
    obtain ⟨hlatched, -⟩ := h.latched
    rcases hr : s.rptState
    · have he := (fgJoinDoneEnabled_iff s).2 ⟨hj, hr, hlatched (by simp [hj])⟩
      exact absurd (hjoin.symm.trans he) (by decide)
    · exact absurd hr (h.joinSession hj)
    · rfl
  have hcnt : s.seqPhase ≠ .idle → s.ivlCnt ≠ 0 := fun hne h0 =>
    absurd (hrun.symm.trans ((intervalEndEnabled_iff s).2 ⟨hne, h0⟩)) (by decide)
  exact {
    params := h.params
    guarantees := ⟨h.writer.1, h.writer.2, hjoinStopping, h.stopping, h.marks, h.duty, h.full⟩
    busy := h.busy
    latched := h.latched
    frame := h.frame
    counters := by
      refine ⟨fun hne => ?_, h.started, ?_, ?_⟩
      · have hne' : s.seqPhase ≠ .idle := hne
        have hle := h.interval hne'
        have h0 := hcnt hne'
        simp only [tick_ivlCnt, tick_params, tick_seqPhase, tick_bitIdx, tick_frame, if_pos hne']
        bv_omega
      · rw [tick_rptWait]
        have hle := h.wait
        split
        · simp only [tick_params]; bv_omega
        · exact hle
      · rw [tick_cancelLat]
        have hle := h.latencyBound
        split
        · simp only [tick_params]; bv_omega
        · exact hle
    latency := fun hs hbg => by
      have hbg' : bgEmitting s = true := hbg
      rw [tick_cancelLat, hbg']
      simpa using h.latency hs hbg'
    carrier := h.carrier }

/-- A reset state with legal parameters, whatever the schedule and the count of draws (R46, R280). -/
theorem inv_reset {p : Params} (hp : p.Valid) (l : List Input) (n : Nat) :
    Inv { State.reset with params := p, inputs := l, draws := n } where
  params := hp
  guarantees := ⟨⟨fun hn => absurd rfl hn, fun hn => absurd rfl hn⟩, ⟨nofun, fun ⟨hn, _⟩ => absurd rfl hn⟩, nofun,
    nofun, ⟨fun hn => absurd rfl hn, fun _ => nofun, fun _ => nofun⟩, show DutyLegal State.reset by decide, nofun⟩
  busy := ⟨nofun, fun hn => absurd rfl hn⟩
  latched := ⟨fun hn => absurd rfl hn, nofun, nofun⟩
  frame := nofun
  counters := ⟨fun hn => absurd rfl hn, fun hn => absurd rfl hn, Nat.zero_le _, Nat.zero_le _⟩
  latency := nofun
  carrier := Nat.zero_le _

/-! ### The invariant of every run -/

/-- Settles O37: the parameters decide nothing of a reset state but `Params.Valid`. -/
theorem invariantAfterReset : Obligations.InvariantAfterReset :=
  ⟨inv_reset (by decide) [] 0, fun _ l hp => inv_reset hp l 0⟩

/-- Settles O38: the access gives `Settling`, the transitions keep it, the tick makes it the invariant again; a reset
starts afresh. -/
theorem stepKeepsInvariant : Obligations.StepKeepsInvariant := by
  intro s t hs h
  by_cases hr : inputNow s = some .reset
  · obtain ⟨l, rfl⟩ := step_of_reset h hr
    exact inv_reset hs.params l s.draws
  · obtain ⟨u, w, ha, hset, rfl⟩ := step_access h hr
    obtain ⟨hw, hq⟩ := settle_keeps (P := Settling) (fun _ _ hu hz => hu.zeroTime hz) hset (settling_of_access hs ha)
    exact hw.tick hq

/-! ## The carrier after a step (R150, R231) -/

/-- An instant leaves on the output the last value that `markWrites` lists, and keeps the output where it lists none. -/
theorem step_carrierValue {s t : State} (hs : Inv s) (h : step s = .next t) (hr : inputNow s ≠ some .reset) :
    t.carrierValue = ((markWrites s t).getLast?.map Prod.snd).getD s.carrierValue := by
  obtain ⟨u, rfl, vs, hw, -⟩ := step_writes h hr
  have htrace : s.trace ++ vs.map (fun v => (s.now, v)) = s.trace ++ markWrites s (tick u) :=
    hw.trace.symm.trans (markWritesTraceTwice s (tick u) hs hr h)
  rw [← List.append_cancel_left htrace, List.getLast?_map, Option.map_map]
  exact hw.carrier.trans (by cases vs.getLast? <;> rfl)

/-- Where the carrier is `ON_VALUE` in marks, point 5 holds as it is written. -/
theorem carrierExactlyInMarks_of_onValue {s : State} (hs : Inv s) (h : CarrierIsOnValue s) :
    CarrierExactlyInMarks s := by
  obtain ⟨-, -, -, -, ⟨hoff, -⟩, -⟩ := hs.guarantees
  exact fun hon => ⟨hoff, fun hm => h hm ▸ hon⟩

/-! ## The command in execution, inside the instant of its completion (R213) -/

/-- The command `s` has in execution is still in execution, and its results are not written; an interval of FG's that
is over is the one in progress in `s`. -/
structure Pending (s u : State) : Prop where
  stage : u.fgStage ≠ .idle
  rDuration : u.rDuration = s.rDuration
  cmdOp : u.cmdOp = s.cmdOp
  autoRpt : u.autoRpt = s.autoRpt
  ended : intervalEndEnabled u = true → s.fgStage = u.fgStage ∧ s.ivlCnt = u.ivlCnt ∧ s.params = u.params ∧
    s.frame = u.frame ∧ s.seqPhase = u.seqPhase

/-- The command `s` has in execution is over, with its results there. -/
structure Completed (s u : State) : Prop where
  stage : u.fgStage = .idle
  ofStop : s.cmdOp = opStopRepeat → u.rDuration = s.rDuration ∧ u.rptState = .idle
  ofEmit : s.cmdOp ≠ opStopRepeat → s.fgStage = .emit ∧ s.ivlCnt = 0 ∧
    u.rDuration = toWord (wholeDuration s.params s.frame s.seqPhase) ∧
    (u.rptState = .repeating ↔ s.cmdOp = opSend ∧ s.autoRpt = true)

/-- While FG is idle only BG's frames begin and end. -/
theorem Settling.zeroTime_of_stage_idle {u u' : State} (h : Settling u) (hi : u.fgStage = .idle)
    (hz : Machine.zeroTime u = some u') :
    u'.fgStage = .idle ∧ u'.rDuration = u.rDuration ∧ u'.rptState = u.rptState := by
  rcases zeroTime_cases hz with ⟨he, rfl⟩ | ⟨-, he, -⟩ | ⟨-, he, -⟩ | ⟨-, -, rfl⟩
  · obtain ⟨hne, -⟩ := (intervalEndEnabled_iff u).1 he
    rcases h.intervalEnd_eq with ⟨ph, i, tr, -, hu⟩ | ⟨-, ho, -⟩ | ⟨-, -, tr, hu⟩
    · rw [hu]; exact ⟨hi, rfl, rfl⟩
    · exact absurd (h.idle_of_foreground (by simp [hi]) ho) hne
    · rw [hu]; exact ⟨hi, rfl, rfl⟩
  · obtain ⟨hr, -⟩ := (bgStopEnabled_iff u).1 he
    exact absurd (hi.symm.trans (h.stopping hr)) (by decide)
  · obtain ⟨hj, -⟩ := (fgJoinDoneEnabled_iff u).1 he
    exact absurd (hi.symm.trans hj) (by decide)
  · simp [Machine.bgFire, hi]

theorem Completed.zeroTime {s u u' : State} (h : Completed s u) (hu : Settling u) (hz : zeroTime u = some u') :
    Completed s u' := by
  obtain ⟨hstage, hdur, hrpt⟩ := hu.zeroTime_of_stage_idle h.stage hz
  exact ⟨hstage, by rw [hdur, hrpt]; exact h.ofStop, by rw [hdur, hrpt]; exact h.ofEmit⟩

/-- FG's frame ends: its results are the duration of the whole frame and the session of a `SEND` with auto-repeat. -/
theorem Pending.foregroundFrameEnd {s u : State} (h : Pending s u) (hu : Settling u)
    (he : intervalEndEnabled u = true) (hn : nextPosition u.seqPhase u.bitIdx = none) (ho : u.seqOwner = .fg)
    (tr : List (Nat × Nat)) :
    Completed s (fgComplete u.durAcc { u with seqPhase := .idle, carrierValue := 0, trace := tr }) := by
  obtain ⟨hne, h0⟩ := (intervalEndEnabled_iff u).1 he
  obtain ⟨hstage, hcnt, hparams, hframe, hphase⟩ := h.ended he
  obtain ⟨hemit, hidle⟩ := hu.writer.foreground hne ho
  obtain ⟨-, hnotStop, -⟩ := hu.latched
  have hdur : u.durAcc = toWord (wholeDuration s.params s.frame s.seqPhase) := by
    rw [hu.started hne, startedDuration_last _ _ hne hn, hparams, hframe, hphase]
  exact {
    stage := by simp
    ofStop := fun hs => absurd (h.cmdOp.trans hs) (hnotStop hemit)
    ofEmit := fun _ => by
      refine ⟨hstage.trans hemit, hcnt.trans h0, by simpa using hdur, ?_⟩
      rw [fgComplete_repeating_iff (by simp [hidle]), ← h.cmdOp, ← h.autoRpt] }

/-- A transition leaves the command pending, or is the end of its frame or of its join. -/
theorem Pending.zeroTime {s u u' : State} (h : Pending s u) (hu : Settling u) (hz : zeroTime u = some u') :
    Pending s u' ∨ Completed s u' := by
  have hruns := zeroTime_interval_runs hu.params hz
  have hpending :
      u'.fgStage ≠ .idle → u'.rDuration = u.rDuration → u'.cmdOp = u.cmdOp → u'.autoRpt = u.autoRpt →
        Pending s u' := fun hstage hdur hop hauto =>
    ⟨hstage, hdur.trans h.rDuration, hop.trans h.cmdOp, hauto.trans h.autoRpt,
      fun he => absurd (hruns.symm.trans he) (by decide)⟩
  rcases zeroTime_cases hz with ⟨he, rfl⟩ | ⟨-, -, rfl⟩ | ⟨-, he, rfl⟩ | ⟨-, -, rfl⟩
  · rcases hu.intervalEnd_eq with ⟨ph, i, tr, -, hi⟩ | ⟨hn, ho, tr, hi⟩ | ⟨-, -, tr, hi⟩ <;> rw [hi] at hpending ⊢
    · exact .inl (hpending h.stage rfl rfl rfl)
    · exact .inr (h.foregroundFrameEnd hu he hn ho tr)
    · exact .inl (hpending h.stage rfl rfl rfl)
  · exact .inl (hpending h.stage rfl rfl rfl)
  · obtain ⟨-, hr, hlatched⟩ := (fgJoinDoneEnabled_iff u).1 he
    rcases fgJoinDone_command hlatched with ⟨k, F, -, -, hj⟩ | ⟨hstop, hj⟩ <;> rw [hj] at hpending ⊢
    · exact .inl (hpending (by simp [fgStart]) (by simp [fgStart]) (by simp [fgStart]) (by simp [fgStart]))
    · exact .inr ⟨rfl, fun _ => ⟨h.rDuration, hr⟩, fun hne => absurd (h.cmdOp.symm.trans hstop) hne⟩
  · rw [Machine.bgFire] at hpending ⊢
    exact .inl (hpending (by simpa using h.stage) (by simp) (by simp) (by simp))

/-! ## The other statements of the family -/

/-- Settles O28: an access changes each only as its rule says, and the rest of the instant changes none. -/
theorem resultsOnlyByTheirCommands : Obligations.ResultsOnlyByTheirCommands := by
  intro s t h hr
  obtain ⟨u, w, ha, hset, rfl⟩ := step_access h hr
  have hside := settle_keeps_hostSide hset
  have hcode : (tick w).rCode = u.rCode := (congrArg State.rCode hside).symm
  have hdec : (tick w).rDecode = u.rDecode := (congrArg State.rDecode hside).symm
  have harg : (tick w).cmdArgReg = u.cmdArgReg := (congrArg State.cmdArgReg hside).symm
  have hduty : (tick w).duty = u.duty :=
    (settle_keeps (P := fun x => x.duty = u.duty) (fun _ _ hx hz => (zeroTime_duty hz).trans hx) hset rfl).1
  rw [hcode, hdec, harg, hduty]
  obtain ⟨acode, adec, aduty, aarg⟩ := ha.results
  exact ⟨acode.resolve_left, adec.resolve_left, aduty.resolve_left, aarg.resolve_left⟩

/-- Settles O49: while `BUSY` the access reaches the flags only, so the command is pending when the settle begins and
completed when `BUSY` has fallen. -/
theorem resultsWhenBusyFalls : Obligations.ResultsWhenBusyFalls := by
  intro s t hs hb hr h hbt
  obtain ⟨u, w, ha, hset, rfl⟩ := step_access h hr
  have hsettling := settling_of_access hs ha
  have hpending : Pending s u := by
    obtain ⟨l, log, ill, ovr, rfl⟩ := ha.of_busy hb
    exact ⟨hs.busy.1 hb, rfl, rfl, rfl, fun _ => ⟨rfl, rfl, rfl, rfl, rfl⟩⟩
  obtain ⟨⟨hw, hp⟩, -⟩ := settle_keeps (P := fun x => Settling x ∧ (Pending s x ∨ Completed s x))
    (fun x x' ⟨hx, hp⟩ hz => ⟨hx.zeroTime hz, hp.elim (fun hp => hp.zeroTime hx hz) fun hc => .inr (hc.zeroTime hx hz)⟩)
    hset ⟨hsettling, .inl hpending⟩
  rcases hp with hp | hc
  · exact absurd (hw.busy.2 hp.stage) (by simpa using hbt)
  · exact ⟨hc.ofStop, hc.ofEmit⟩

/-- Settles O58: a mark that goes on writes nothing, and one that starts writes `ON_VALUE` last. -/
theorem carrierFollowsOnValue : Obligations.CarrierFollowsOnValue := by
  intro s t hs h
  have hboth : CarrierIsOnValue t → CarrierIsOnValue t ∧ CarrierExactlyInMarks t := fun hon =>
    ⟨hon, carrierExactlyInMarks_of_onValue (stepKeepsInvariant s t hs h) hon⟩
  by_cases hr : inputNow s = some .reset
  · obtain ⟨l, rfl⟩ := step_of_reset h hr
    exact ⟨fun _ _ _ _ => hboth nofun, fun _ => hboth nofun, fun _ _ hn => absurd hr hn⟩
  have hcarrier := step_carrierValue hs h hr
  have hgoesOn : isMark s.seqPhase = true → s.ivlCnt ≠ 0 → t.carrierValue = s.carrierValue := fun hm h0 => by
    rw [hcarrier, markWrites, if_neg (fun hend => h0 hend.2), if_neg (fun hstart => hstart.2 ⟨hm, h0⟩)]
    rfl
  refine ⟨fun hm h0 hduty hon => hboth fun _ => ?_, fun hnot => hboth fun hm => ?_, fun hm h0 _ => hgoesOn hm h0⟩
  · rw [hgoesOn hm h0, hon hm, onValue, onValue, hduty, parametersConstant s t h]
  · rw [hcarrier, markWrites, if_pos (⟨hm, hnot⟩ : _ ∧ _), List.getLast?_append]
    rfl

/-- Settles O22: the fields are read off the bits of `STATUS`, and a write is `clearSticky` by definition. -/
theorem statusRegister : Obligations.StatusRegister := by
  refine ⟨fun s => ⟨?_, ?_, ?_, ?_, ?_, statusWord_owner s, ?_, statusWord_bitIdx s, statusWord_high s⟩,
    fun s v => rfl, by decide⟩
  · exact (getLsbD_statusWord s 0).trans (by simp)
  · exact (statusWord_rptState s).trans (by cases s.rptState <;> rfl)
  · exact (getLsbD_statusWord s 3).trans (by by_cases h : s.carrierValue = 0 <;> simp [markFlag, h])
  · exact (getLsbD_statusWord s 4).trans (by simp)
  · exact (getLsbD_statusWord s 5).trans (by simp)
  · exact (statusWord_seqPhase s).trans (by cases s.seqPhase <;> rfl)

/-- Settles O23: each register is its field as wide as a host word, and the record of a read is one of the elements
no transition reaches. -/
theorem hostReads : Obligations.HostReads := by
  refine ⟨fun s => ⟨rfl, ?_, rfl, rfl, ?_, ?_, rfl, fun idx hidx => hostRead_reserved hidx s⟩, fun s idx hi => ?_⟩
  · exact BitVec.toNat_setWidth_of_le (by decide)
  · exact BitVec.toNat_setWidth_of_le (by decide)
  · exact BitVec.toNat_setWidth_of_le (by decide)
  obtain ⟨l, hl⟩ := takeInput_snd s
  have hstep : step s = finishInstant { (takeInput s).2 with
      readLog := s.readLog ++ [⟨s.now, idx, hostRead idx s⟩] } := by
    have he : (takeInput s).1 = some (.read idx) := hi
    rw [step, instant, he, hl]
    rfl
  exact ⟨hstep, fun t hf => hstep.trans (finishInstant_withReadLog _ hf)⟩

/-- Settles O33: while an interval is in progress, one writer rules out the other three, and those ask for three
different states of the coordinator. -/
theorem transitionsExcludeEachOther : Obligations.TransitionsExcludeEachOther := by
  intro s hone hemit
  have hw : OneWriter s := ⟨hone, hemit⟩
  simp only [← Bool.not_eq_true (bgStopEnabled s), ← Bool.not_eq_true (fgJoinDoneEnabled s),
    ← Bool.not_eq_true (bgFireEnabled s), intervalEndEnabled_iff, bgStopEnabled_iff, fgJoinDoneEnabled_iff,
    bgFireEnabled_iff]
  refine ⟨fun ⟨hne, _⟩ => ⟨?_, ?_, ?_⟩, fun ⟨hr, _⟩ => ⟨?_, ?_⟩, fun ⟨_, hr, _⟩ => ?_⟩
  · exact fun ⟨hr, hbg, _⟩ => hne (hw.idle_of_session hbg (by simp [hr]))
  · exact fun ⟨hj, hr, _⟩ => hne (hw.idle_of_join hj hr)
  · exact fun ⟨_, hidle, _⟩ => hne hidle
  · exact fun ⟨_, hr', _⟩ => absurd (hr.symm.trans hr') (by decide)
  · exact fun ⟨hr', _⟩ => absurd (hr.symm.trans hr') (by decide)
  · exact fun ⟨hr', _⟩ => absurd (hr.symm.trans hr') (by decide)

/-- Settles O35: the reset block differs from the reset state in nothing the table names. -/
theorem resetValues : Obligations.ResetValues := by
  rintro before s (rfl | rfl)
  · simp [State.reset]
  · simp

end Sys2Proof.Safety

namespace Sys2Proof

/-! ## Words as sums of their parts (R66, R90) -/

/-- The value of two words joined: the high one counts by the width of the low one. -/
theorem toNat_append_eq_add {m n : Nat} (x : BitVec m) (y : BitVec n) :
    (x ++ y).toNat = x.toNat * 2 ^ n + y.toNat := by
  rw [BitVec.toNat_append, ← Nat.shiftLeft_add_eq_or_of_lt y.isLt, Nat.shiftLeft_eq]

/-- The value of the four bytes of format `B`, the byte sent first counting least (R66). -/
theorem toNat_packB (low high cmd invCmd : Byte) :
    (packB low high cmd invCmd).toNat =
      low.toNat + high.toNat * 2 ^ 8 + cmd.toNat * 2 ^ 16 + invCmd.toNat * 2 ^ 24 := by
  have h : (packB low high cmd invCmd).toNat =
      ((invCmd.toNat * 2 ^ 8 + cmd.toNat) * 2 ^ 8 + high.toNat) * 2 ^ 8 + low.toNat := by
    simp only [← toNat_append_eq_add]
    rfl
  omega

end Sys2Proof

namespace Sys2Proof.Machine

/-! ## Writes to the read-only indices (R63, R64) -/

theorem hostWrite_read_only {idx : Nat} (h : 3 ≤ idx) (v : Word) (s : State) : hostWrite idx v s = .next s := by
  obtain ⟨n, rfl⟩ := Nat.exists_eq_add_of_le' h
  rfl

/-! ## The schedule of inputs (R12) -/

/-- No zero-time transition reaches the schedule. -/
theorem zeroTime_inputs {s s' : State} (h : zeroTime s = some s') : s'.inputs = s.inputs := by
  have hcomm := zeroTime_withHostSide s s
  rw [withHostSide_self, h] at hcomm
  have hside : s' = withHostSide s s' := Option.some.inj hcomm
  rw [hside]
  rfl

theorem hostWrite_inputs {idx : Nat} {v : Word} {s u : State} (h : hostWrite idx v s = .next u) :
    u.inputs = s.inputs := by
  rcases hostWrite_cases h with ⟨-, -, rfl⟩ | ⟨-, -, rfl⟩ | ⟨-, -, hi⟩ | ⟨-, rfl⟩ | ⟨-, rfl⟩
  · rfl
  · rfl
  · rcases issue_cases hi with ⟨i, -, he⟩ | ⟨e, -, rfl⟩
    · rcases exec_cases i s with ⟨op, arg, auto, hx⟩ | ⟨op, arg, ticks, code, dec, duty, hx⟩ <;>
        cases he.symm.trans hx
      · simp
      · rfl
    · rfl
  · rfl
  · rfl

/-- After a step the inputs still to come are what the taking of this instant's left. -/
theorem step_inputs {s t : State} (h : step s = .next t) : t.inputs = (takeInput s).2.inputs :=
  step_keeps (P := fun u => u.inputs = (takeInput s).2.inputs) (Q := fun t => t.inputs = (takeInput s).2.inputs)
    (fun _ _ hu hz => (zeroTime_inputs hz).trans hu) (fun _ hu _ => hu) h (fun _ => rfl) (fun _ => rfl)
    (fun _ _ => rfl) (fun _ _ _ _ hw => hostWrite_inputs hw)

/-- Every input still to come once this instant's is taken was to come before. -/
theorem takeInput_events {s : State} {x : Input} (h : x ∈ (takeInput s).2.inputs) :
    ∃ y ∈ s.inputs, y.event = x.event := by
  unfold takeInput at h
  split at h
  · next hl => exact ⟨x, h, rfl⟩
  · next e rest hl => exact ⟨x, by rw [hl]; exact List.mem_cons_of_mem _ h, rfl⟩
  · next d e rest hl =>
    rcases List.mem_cons.1 h with rfl | hx
    · exact ⟨⟨d + 1, e⟩, by simp [hl], rfl⟩
    · exact ⟨x, by rw [hl]; exact List.mem_cons_of_mem _ hx, rfl⟩

/-- The input taken is one that was to come. -/
theorem takeInput_event_mem {s : State} {e : InputEvent} (h : (takeInput s).1 = some e) :
    ∃ y ∈ s.inputs, y.event = e := by
  unfold takeInput at h
  split at h
  · cases h
  · next rest hl =>
    cases h
    exact ⟨⟨0, e⟩, by simp [hl], rfl⟩
  · cases h

/-! ## How far a frame has come (R29, R30) -/

theorem bitsDuration_le {p : Params} {F : Word} {m n : Nat} (h : m ≤ n) : bitsDuration p F m ≤ bitsDuration p F n :=
  monotone_nat_of_le_succ (fun _ => Nat.le_add_right _ _) h

/-- The duration of a full frame is the sum of its intervals (R102). -/
theorem frameDuration_eq (p : Params) (F : Word) :
    frameDuration p F = p.leadMark + p.leadSpace + bitsDuration p F 32 + p.trailMark :=
  (startedDuration_last p F (ph := .trailMark) (i := 31) nofun rfl).symm

/-- No more of a frame has started than the whole of it. -/
theorem startedDuration_le_whole (p : Params) (F : Word) (ph : Phase) (i : BitVec 5) :
    startedDuration p F ph i ≤ wholeDuration p F ph := by
  have hbits : bitsDuration p F i.toNat + p.bitMark ≤ bitsDuration p F (i.toNat + 1) := by
    rw [bitsDuration]; omega
  have hrest : bitsDuration p F (i.toNat + 1) ≤ bitsDuration p F 32 := bitsDuration_le i.isLt
  cases ph <;> simp only [startedDuration, wholeDuration, inFullFrame, inRepeatFrame, if_true, if_false,
    Bool.false_eq_true, frameDuration_eq, Params.repeatDuration] <;> omega

/-- The interval in progress is among those started. -/
theorem dur_le_startedDuration (p : Params) (F : Word) (ph : Phase) (i : BitVec 5) :
    dur p ph i F ≤ startedDuration p F ph i := by
  cases ph <;> simp only [startedDuration, dur, bitsDuration, Params.repeatDuration] <;> omega

/-- The longest full frame is as long as R6(d) says. -/
theorem frameDuration_le_durMax (p : Params) (F : Word) : frameDuration p F ≤ p.durMax := by
  have hle : popcount F ≤ 32 := by
    simpa [popcount] using List.countP_le_length (p := fun i => F.getLsbD i) (l := List.range 32)
  have hone : popcount F * p.bit1Space ≤ popcount F * max p.bit0Space p.bit1Space :=
    Nat.mul_le_mul_left _ (le_max_right _ _)
  have hzero : (32 - popcount F) * p.bit0Space ≤ (32 - popcount F) * max p.bit0Space p.bit1Space :=
    Nat.mul_le_mul_left _ (le_max_left _ _)
  have hsum : popcount F * max p.bit0Space p.bit1Space + (32 - popcount F) * max p.bit0Space p.bit1Space =
      32 * max p.bit0Space p.bit1Space := by
    rw [← Nat.add_mul, Nat.add_sub_cancel' hle]
  simp only [frameDuration, Params.durMax]
  omega

/-- Every frame is at most the longest full frame or the repeat frame. -/
theorem wholeDuration_le (p : Params) (F : Word) (ph : Phase) :
    wholeDuration p F ph ≤ max p.durMax p.repeatDuration := by
  have hfull := frameDuration_le_durMax p F
  unfold wholeDuration
  split_ifs <;> omega

end Sys2Proof.Machine

namespace Sys2Proof.Safety

open Sys2Proof.Machine

/-! ## Runs (R12, R216) -/

/-- A run of a machine whose first step goes on. -/
theorem coreRun_succ {M : Host.Core} {s t : M.State} (h : M.step s = .next t) (k : Nat) :
    M.run (k + 1) s = M.run k t := by
  simp only [Host.Core.run, h]

/-- A run of a machine that does not stop goes on from its first step. -/
theorem coreRun_succ_next {M : Host.Core} {s t : M.State} {k : Nat} (h : M.run (k + 1) s = .next t) :
    ∃ u, M.step s = .next u ∧ M.run k u = .next t := by
  rcases hs : M.step s with u | r | r <;> simp only [Host.Core.run, hs, reduceCtorEq] at h
  exact ⟨u, rfl, h⟩

theorem run_succ {s t : State} (h : step s = .next t) (k : Nat) : run (k + 1) s = run k t :=
  coreRun_succ (M := Sys2Proof.core) h k

theorem run_add {a : Nat} {s t : State} (h : run a s = .next t) (b : Nat) : run (a + b) s = run b t := by
  induction a generalizing s with
  | zero =>
    cases h
    rw [Nat.zero_add]
  | succ a ih =>
    obtain ⟨u, hu, hrest⟩ := coreRun_succ_next (M := Sys2Proof.core) h
    rw [Nat.succ_add, run_succ hu]
    exact ih hrest

/-- A run that counts down: while `P` holds each step lowers `m` by one, but for a step at 0, which ends with `Q`. So
`P` holds for `m` steps, and `Q` after one more. -/
theorem run_countdown {P Q : State → Prop} {m : State → Nat} (hnext : ∀ s, P s → ∃ t, step s = .next t)
    (hstep : ∀ s t, P s → step s = .next t → (P t ∧ m t + 1 = m s) ∨ (m s = 0 ∧ Q t)) {s : State} (hs : P s) :
    (∀ k ≤ m s, ∃ t, run k s = .next t ∧ P t) ∧ ∃ t, run (m s + 1) s = .next t ∧ Q t := by
  induction hm : m s generalizing s with
  | zero =>
    obtain ⟨t, ht⟩ := hnext s hs
    refine ⟨fun k hk => ?_, t, run_succ ht 0, ?_⟩
    · obtain rfl : k = 0 := Nat.le_zero.1 hk
      exact ⟨s, rfl, hs⟩
    · rcases hstep s t hs ht with ⟨-, hlt⟩ | ⟨-, hq⟩
      · omega
      · exact hq
  | succ n ih =>
    obtain ⟨t, ht⟩ := hnext s hs
    rcases hstep s t hs ht with ⟨hp, hlt⟩ | ⟨h0, -⟩
    · obtain ⟨hbefore, w, hw, hq⟩ := ih hp (by omega)
      refine ⟨fun k hk => ?_, w, (run_succ ht _).trans hw, hq⟩
      cases k with
      | zero => exact ⟨s, rfl, hs⟩
      | succ k =>
        obtain ⟨v, hv, hpv⟩ := hbefore k (by omega)
        exact ⟨v, (run_succ ht k).trans hv, hpv⟩
    · omega

/-- A state of the invariant with the parameters `p` and no reset to come. -/
structure WithoutReset (p : Params) (s : State) : Prop where
  inv : Inv s
  noReset : NoReset s
  params : s.params = p

theorem WithoutReset.step_next {p : Params} {s : State} (h : WithoutReset p s) : ∃ t, step s = .next t :=
  stepNeverStops s h.inv.params

theorem WithoutReset.not_reset {p : Params} {s : State} (h : WithoutReset p s) : inputNow s ≠ some .reset := fun he =>
  let ⟨y, hy, hreset⟩ := takeInput_event_mem he
  h.noReset y hy hreset

theorem WithoutReset.step {p : Params} {s t : State} (h : WithoutReset p s) (hst : step s = .next t) :
    WithoutReset p t where
  inv := stepKeepsInvariant s t h.inv hst
  noReset x hx := by
    obtain ⟨y, hy, he⟩ := takeInput_events (step_inputs hst ▸ hx)
    exact he ▸ h.noReset y hy
  params := (parametersConstant s t hst).trans h.params

/-! ## The ticks left of a frame -/

/-- Entering the next interval moves its ticks from the intervals to come to the counter (R153). -/
theorem frameTicksLeft_next {s : State} (hp : s.params.Valid) (h0 : s.ivlCnt = 0) {ph : Phase} {i : BitVec 5}
    (hn : nextPosition s.seqPhase s.bitIdx = some (ph, i)) (acc : Word) (v : Nat) (tr : List (Nat × Nat)) :
    frameTicksLeft { s with
      seqPhase := ph, bitIdx := i, ivlCnt := toWord (dur s.params ph i s.frame), durAcc := acc
      carrierValue := v, trace := tr } = frameTicksLeft s := by
  have hstarted := startedDuration_next s.params s.frame hn
  have hle := startedDuration_le_whole s.params s.frame ph i
  have hload : (toWord (dur s.params ph i s.frame)).toNat = dur s.params ph i s.frame :=
    Nat.mod_eq_of_lt (dur_lt hp ph i s.frame)
  obtain ⟨hfull, hrep⟩ := nextPosition_same_frame hn
  have hwhole : wholeDuration s.params s.frame ph = wholeDuration s.params s.frame s.seqPhase := by
    simp only [wholeDuration, hfull, hrep]
  simp only [frameTicksLeft, h0, hload, hwhole, BitVec.ofNat_eq_ofNat, BitVec.toNat_ofNat, Nat.zero_mod]
  omega

/-- At the end of the last interval nothing is left. -/
theorem frameTicksLeft_last {s : State} (hne : s.seqPhase ≠ .idle) (h0 : s.ivlCnt = 0)
    (hn : nextPosition s.seqPhase s.bitIdx = none) : frameTicksLeft s = 0 := by
  simp [frameTicksLeft, startedDuration_last _ _ hne hn, h0]

/-- While an interval runs its counter is not at its end. -/
theorem ivlCnt_ne_zero {s : State} (hruns : intervalEndEnabled s = false) (hne : s.seqPhase ≠ .idle) :
    s.ivlCnt ≠ 0 := fun h0 =>
  absurd (hruns.symm.trans ((intervalEndEnabled_iff s).2 ⟨hne, h0⟩)) (by decide)

theorem frameTicksLeft_ne_zero {s : State} (h0 : s.ivlCnt ≠ 0) : frameTicksLeft s ≠ 0 := by
  unfold frameTicksLeft
  bv_omega

/-- A tick inside an interval takes one of the ticks left. -/
theorem frameTicksLeft_tick {s : State} (hne : s.seqPhase ≠ .idle) (h0 : s.ivlCnt ≠ 0) :
    frameTicksLeft (tick s) + 1 = frameTicksLeft s := by
  simp only [frameTicksLeft, tick_ivlCnt, if_pos hne, tick_params, tick_frame, tick_seqPhase, tick_bitIdx]
  bv_omega

/-- Between instants less is left than the whole frame, of whose first interval a tick has passed. -/
theorem Inv.frameTicksLeft_lt {s : State} (h : Inv s) (hne : s.seqPhase ≠ .idle) :
    frameTicksLeft s < wholeDuration s.params s.frame s.seqPhase := by
  obtain ⟨hcnt, -⟩ := h.counters
  have hlt := hcnt hne
  have hdur := dur_le_startedDuration s.params s.frame s.seqPhase s.bitIdx
  have hle := startedDuration_le_whole s.params s.frame s.seqPhase s.bitIdx
  unfold frameTicksLeft
  omega

/-- A frame of BG's is a repeat frame (R42 point 7). -/
theorem Inv.wholeDuration_background {s : State} (h : Inv s) (hbg : bgEmitting s = true) :
    wholeDuration s.params s.frame s.seqPhase = s.params.repeatDuration := by
  obtain ⟨-, -, -, -, -, -, hfull⟩ := h.guarantees
  obtain ⟨hne, ho⟩ := (bgEmitting_iff s).1 hbg
  have hnot : inFullFrame s.seqPhase = false :=
    Bool.eq_false_iff.2 fun hf => absurd ((hfull hf).symm.trans ho) (by decide)
  revert hne hnot
  unfold wholeDuration
  cases s.seqPhase <;> simp [inFullFrame, inRepeatFrame]

/-- While FG is emitting, the frame in progress is its own (R42 point 2). -/
theorem OneWriter.frame_of_emit {s : State} (h : OneWriter s) (he : s.fgStage = .emit) :
    s.seqPhase ≠ .idle ∧ s.seqOwner = .fg := by
  obtain ⟨-, hemit⟩ := h
  exact hemit.1 he

/-- The induction over a step in which a command is in execution: the access reaches the flags only, so what holds
whatever the flags are and is kept by every zero-time transition holds where the tick begins. -/
theorem step_keeps_of_busy {P : State → Prop} {s t : State} (hs : Inv s) (hb : s.busy = true)
    (hr : inputNow s ≠ some .reset) (h : step s = .next t)
    (haccess : ∀ l log ill ovr, P { s with inputs := l, readLog := log, ill := ill, ovr := ovr })
    (hz : ∀ x x', Settling x → P x → zeroTime x = some x' → P x') :
    ∃ w, t = tick w ∧ Settling w ∧ zeroTime w = none ∧ P w := by
  obtain ⟨u, w, ha, hset, rfl⟩ := step_access h hr
  have hu := settling_of_access hs ha
  obtain ⟨l, log, ill, ovr, rfl⟩ := ha.of_busy hb
  obtain ⟨⟨hw, hp⟩, hq⟩ := settle_keeps (P := fun x => Settling x ∧ P x)
    (fun x x' ⟨hx, hp⟩ hstep => ⟨hx.zeroTime hstep, hz x x' hx hp hstep⟩) hset ⟨hu, haccess l log ill ovr⟩
  exact ⟨w, rfl, hw, hq, hp⟩

/-! ## The foreground frame ends on time (R153, R213) -/

/-- While FG is emitting, a transition takes its frame to the next interval, or ends it with nothing left. -/
theorem Settling.zeroTime_of_emit {u u' : State} (h : Settling u) (he : u.fgStage = .emit)
    (hz : Machine.zeroTime u = some u') :
    (u'.fgStage = .emit ∧ u'.rptState = u.rptState ∧ frameTicksLeft u' = frameTicksLeft u) ∨
      (frameTicksLeft u = 0 ∧ u'.fgStage = .idle) := by
  obtain ⟨hne, ho⟩ := h.writer.frame_of_emit he
  obtain ⟨-, hidle⟩ := h.writer.foreground hne ho
  rcases zeroTime_cases hz with ⟨hend, rfl⟩ | ⟨-, hen, -⟩ | ⟨-, hen, -⟩ | ⟨-, hen, -⟩
  · obtain ⟨-, h0⟩ := (intervalEndEnabled_iff u).1 hend
    rcases h.intervalEnd_eq with ⟨ph, i, tr, hn, hi⟩ | ⟨hn, -, tr, hi⟩ | ⟨-, hbg, -⟩
    · rw [hi]
      exact .inl ⟨he, rfl, frameTicksLeft_next h.params h0 hn _ _ tr⟩
    · rw [hi]
      exact .inr ⟨frameTicksLeft_last hne h0 hn, by simp⟩
    · exact absurd (ho.symm.trans hbg) (by decide)
  · obtain ⟨hr, -⟩ := (bgStopEnabled_iff u).1 hen
    exact absurd (hidle.symm.trans hr) (by decide)
  · obtain ⟨hj, -⟩ := (fgJoinDoneEnabled_iff u).1 hen
    exact absurd (he.symm.trans hj) (by decide)
  · obtain ⟨-, hp, -⟩ := (bgFireEnabled_iff u).1 hen
    exact absurd hp hne

/-- A step inside a foreground frame: one tick less is left, or nothing was left and FG is idle. -/
theorem step_of_emit {s t : State} (hs : Inv s) (he : s.fgStage = .emit) (hr : inputNow s ≠ some .reset)
    (h : step s = .next t) :
    (t.fgStage = .emit ∧ frameTicksLeft t + 1 = frameTicksLeft s) ∨ (frameTicksLeft s = 0 ∧ t.fgStage = .idle) := by
  obtain ⟨w, rfl, hw, hq, hstage⟩ := step_keeps_of_busy
    (P := fun x => (x.fgStage = .emit ∧ frameTicksLeft x = frameTicksLeft s) ∨
      (frameTicksLeft s = 0 ∧ x.fgStage = .idle))
    hs (hs.busy.2 (by simp [he])) hr h (fun _ _ _ _ => .inl ⟨he, rfl⟩) (fun x x' hx hstage hz => by
      rcases hstage with ⟨hemit, hleft⟩ | ⟨h0, hidle⟩
      · rcases hx.zeroTime_of_emit hemit hz with ⟨hemit', -, hsame⟩ | ⟨h0, hidle⟩
        · exact .inl ⟨hemit', hsame.trans hleft⟩
        · exact .inr ⟨hleft.symm.trans h0, hidle⟩
      · exact .inr ⟨h0, (hx.zeroTime_of_stage_idle hidle hz).1⟩)
  rcases hstage with ⟨hemit, hleft⟩ | hover
  · obtain ⟨hruns, -⟩ := (zeroTime_none_iff w).1 hq
    obtain ⟨hne, -⟩ := hw.writer.frame_of_emit hemit
    exact .inl ⟨hemit, (frameTicksLeft_tick hne (ivlCnt_ne_zero hruns hne)).trans hleft⟩
  · exact .inr hover

/-! ## The join ends on time (R206, R207, R211) -/

/-- The ticks left of a join: what is left of the background frame in progress, or of the latency where BG waits
(R206, R207, D12). -/
def joinTicksLeft (s : State) : Nat := if bgEmitting s then frameTicksLeft s else s.cancelLat.toNat

theorem joinTicksLeft_of_bgEmitting {s : State} (h : bgEmitting s = true) : joinTicksLeft s = frameTicksLeft s :=
  if_pos h

theorem joinTicksLeft_of_waiting {s : State} (h : bgEmitting s = false) : joinTicksLeft s = s.cancelLat.toNat :=
  if_neg (by simp [h])

/-- While the session is stopping, a transition takes BG's frame to its next interval or to its end, after which no
latency is left (D12), or is the stop of the session with nothing left. -/
theorem Settling.zeroTime_of_stopping {u u' : State} (h : Settling u) (hr : u.rptState = .stopping)
    (hz : Machine.zeroTime u = some u') :
    (u'.rptState = .stopping ∧ joinTicksLeft u' = joinTicksLeft u) ∨
      (joinTicksLeft u = 0 ∧ u'.rptState = .idle ∧ u'.fgStage = .join) := by
  rcases zeroTime_cases hz with ⟨hend, rfl⟩ | ⟨-, hen, rfl⟩ | ⟨-, hen, -⟩ | ⟨-, hen, -⟩
  · obtain ⟨hne, h0⟩ := (intervalEndEnabled_iff u).1 hend
    have ho : u.seqOwner = .bg := by
      rcases ho : u.seqOwner
      · exact absurd ((h.writer.foreground hne ho).2.symm.trans hr) (by decide)
      · rfl
    have hbg : bgEmitting u = true := (bgEmitting_iff u).2 ⟨hne, ho⟩
    rw [joinTicksLeft_of_bgEmitting hbg]
    rcases h.intervalEnd_eq with ⟨ph, i, tr, hn, hi⟩ | ⟨-, hfg, -⟩ | ⟨hn, -, tr, hi⟩
    · have hbg' : bgEmitting (Machine.intervalEnd u) = true :=
        (bgEmitting_iff _).2 ⟨by rw [hi]; exact nextPosition_ne_idle hn, by rw [hi]; exact ho⟩
      rw [joinTicksLeft_of_bgEmitting hbg', hi]
      exact .inl ⟨hr, frameTicksLeft_next h.params h0 hn _ _ tr⟩
    · exact absurd (ho.symm.trans hfg) (by decide)
    · rw [frameTicksLeft_last hne h0 hn, hi]
      exact .inl ⟨hr, congrArg BitVec.toNat (h.latency hr hbg)⟩
  · obtain ⟨-, hbg, hlat⟩ := (bgStopEnabled_iff u).1 hen
    exact .inr ⟨by rw [joinTicksLeft_of_waiting hbg, hlat]; rfl, rfl, h.stopping hr⟩
  · obtain ⟨-, hi, -⟩ := (fgJoinDoneEnabled_iff u).1 hen
    exact absurd (hr.symm.trans hi) (by decide)
  · obtain ⟨hrep, -⟩ := (bgFireEnabled_iff u).1 hen
    exact absurd (hr.symm.trans hrep) (by decide)

/-- With the session stopping and nothing enabled, a tick takes one of the ticks left. -/
theorem joinTicksLeft_tick {u : State} (hr : u.rptState = .stopping)
    (hq : zeroTime u = none) : joinTicksLeft (tick u) + 1 = joinTicksLeft u := by
  obtain ⟨hruns, hstop, -⟩ := (zeroTime_none_iff u).1 hq
  rcases hbg : bgEmitting u
  · have hlat : u.cancelLat ≠ 0 := fun h0 =>
      absurd (hstop.symm.trans ((bgStopEnabled_iff u).2 ⟨hr, hbg, h0⟩)) (by decide)
    rw [joinTicksLeft_of_waiting hbg, joinTicksLeft_of_waiting (s := tick u) hbg, tick_cancelLat,
      if_pos ⟨hr, hbg, hlat⟩]
    bv_omega
  · obtain ⟨hne, -⟩ := (bgEmitting_iff u).1 hbg
    rw [joinTicksLeft_of_bgEmitting hbg, joinTicksLeft_of_bgEmitting (s := tick u) hbg]
    exact frameTicksLeft_tick hne (ivlCnt_ne_zero hruns hne)

/-- The session of a join is gone, and the frame the join may have started is not over. -/
def SessionGone (u : State) : Prop :=
  u.rptState = .idle ∧ (u.fgStage = .emit → frameTicksLeft u ≠ 0)

/-- With the session gone, the join ends with FG idle or at the start of a frame, and then nothing more happens. -/
theorem SessionGone.zeroTime {u u' : State} (h : SessionGone u) (hu : Settling u) (hz : zeroTime u = some u') :
    SessionGone u' := by
  obtain ⟨hidle, hleft⟩ := h
  rcases hstage : u.fgStage
  case idle =>
    obtain ⟨hi, -, hr⟩ := hu.zeroTime_of_stage_idle hstage hz
    exact ⟨hr.trans hidle, fun he => absurd (hi.symm.trans he) (by decide)⟩
  case join =>
    rcases zeroTime_cases hz with ⟨hen, -⟩ | ⟨-, hen, -⟩ | ⟨-, -, rfl⟩ | ⟨-, hen, -⟩
    · exact absurd (hu.writer.idle_of_join hstage hidle) ((intervalEndEnabled_iff u).1 hen).1
    · exact absurd (hidle.symm.trans ((bgStopEnabled_iff u).1 hen).1) (by decide)
    · have hgone : (fgJoinDone u).rptState = .idle := by
        rcases fgJoinDone_cases u with ⟨k, F, hj⟩ | hj <;> simp [hj, fgStart, hidle]
      have hruns := zeroTime_interval_runs hu.params hz
      exact ⟨hgone, fun he =>
        frameTicksLeft_ne_zero (ivlCnt_ne_zero hruns ((hu.zeroTime hz).writer.frame_of_emit he).1)⟩
    · exact absurd (hidle.symm.trans ((bgFireEnabled_iff u).1 hen).1) (by decide)
  case emit =>
    rcases hu.zeroTime_of_emit hstage hz with ⟨-, hr, hsame⟩ | ⟨h0, -⟩
    · exact ⟨hr.trans hidle, fun _ => hsame ▸ hleft hstage⟩
    · exact absurd h0 (hleft hstage)

/-- A step in STOPPING: one tick less is left of the join, or nothing was left, and the session and the join are gone. -/
theorem step_of_stopping {s t : State} (hs : Inv s) (hstop : s.rptState = .stopping) (hr : inputNow s ≠ some .reset)
    (h : step s = .next t) :
    (t.rptState = .stopping ∧ joinTicksLeft t + 1 = joinTicksLeft s) ∨
      (joinTicksLeft s = 0 ∧ t.rptState = .idle ∧ t.fgStage ≠ .join) := by
  have hjoin : s.fgStage = .join := hs.settling.stopping hstop
  obtain ⟨w, rfl, hw, hq, hstage⟩ := step_keeps_of_busy
    (P := fun x => (x.rptState = .stopping ∧ joinTicksLeft x = joinTicksLeft s) ∨
      (joinTicksLeft s = 0 ∧ SessionGone x))
    hs (hs.busy.2 (by simp [hjoin])) hr h (fun _ _ _ _ => .inl ⟨hstop, rfl⟩) (fun x x' hx hstage hz => by
      rcases hstage with ⟨hstop, hleft⟩ | ⟨h0, hgone⟩
      · rcases hx.zeroTime_of_stopping hstop hz with ⟨hstop', hsame⟩ | ⟨h0, hidle, hj⟩
        · exact .inl ⟨hstop', hsame.trans hleft⟩
        · exact .inr ⟨hleft.symm.trans h0, hidle, fun he => absurd (hj.symm.trans he) (by decide)⟩
      · exact .inr ⟨h0, hgone.zeroTime hx hz⟩)
  rcases hstage with ⟨hstop', hleft⟩ | ⟨h0, hidle, -⟩
  · exact .inl ⟨hstop', (joinTicksLeft_tick hstop' hq).trans hleft⟩
  · obtain ⟨-, -, hjoinStopping, -⟩ := (hw.tick hq).guarantees
    exact .inr ⟨h0, hidle, fun hj => absurd (hidle.symm.trans (hjoinStopping hj)) (by decide)⟩

/-! ## The runs to the end of a join and of a frame -/

/-- From a state in STOPPING: STOPPING for the ticks left of the join, and then the session and the join are gone. -/
theorem run_of_stopping {p : Params} {s : State} (hs : WithoutReset p s) (hstop : s.rptState = .stopping) :
    (∀ k ≤ joinTicksLeft s, ∃ t, run k s = .next t ∧ WithoutReset p t ∧ t.rptState = .stopping) ∧
      ∃ t, run (joinTicksLeft s + 1) s = .next t ∧ WithoutReset p t ∧ t.rptState = .idle ∧ t.fgStage ≠ .join :=
  run_countdown (P := fun s => WithoutReset p s ∧ s.rptState = .stopping) (fun _ hp => hp.1.step_next)
    (fun s t ⟨hs, hstop⟩ h => by
      rcases step_of_stopping hs.inv hstop hs.not_reset h with ⟨hstop', hleft⟩ | ⟨h0, hover⟩
      · exact .inl ⟨⟨hs.step h, hstop'⟩, hleft⟩
      · exact .inr ⟨h0, hs.step h, hover⟩)
    ⟨hs, hstop⟩

/-- From inside a frame of FG's: `BUSY` falls at its end. -/
theorem run_of_emit {p : Params} {s : State} (hs : WithoutReset p s) (he : s.fgStage = .emit) :
    ∃ t, run (frameTicksLeft s + 1) s = .next t ∧ t.busy = false :=
  (run_countdown (P := fun s => WithoutReset p s ∧ s.fgStage = .emit) (Q := fun t => t.busy = false)
    (fun _ hp => hp.1.step_next)
    (fun s t ⟨hs, he⟩ h => by
      rcases step_of_emit hs.inv he hs.not_reset h with ⟨he', hleft⟩ | ⟨h0, hidle⟩
      · exact .inl ⟨⟨hs.step h, he'⟩, hleft⟩
      · exact .inr ⟨h0, Bool.eq_false_iff.2 fun hb => (hs.step h).inv.busy.1 hb hidle⟩)
    ⟨hs, he⟩).2

/-- What is left of a join is within a repeat frame, or within the latency bound. -/
theorem Inv.joinTicksLeft_lt {s : State} (h : Inv s) :
    joinTicksLeft s < s.params.repeatDuration + s.params.cancelLatencyMax + 1 := by
  obtain ⟨-, -, -, hlat⟩ := h.counters
  rcases hbg : bgEmitting s
  · rw [joinTicksLeft_of_waiting hbg]
    omega
  · have hlt := h.frameTicksLeft_lt ((bgEmitting_iff s).1 hbg).1
    rw [h.wholeDuration_background hbg] at hlt
    rw [joinTicksLeft_of_bgEmitting hbg]
    omega

/-- What is left of FG's frame is less than the longest frame. -/
theorem Inv.frameTicksLeft_lt_of_emit {s : State} (h : Inv s) (he : s.fgStage = .emit) :
    frameTicksLeft s < max s.params.durMax s.params.repeatDuration :=
  (h.frameTicksLeft_lt (h.settling.writer.frame_of_emit he).1).trans_le (wholeDuration_le _ _ _)

/-! ## The statements of the family -/

/-- Settles O55: the join counts down by one a step, and the step at 0 ends it. -/
theorem joinEndsOnTime : Obligations.JoinEndsOnTime := by
  intro s hs hstop hno
  obtain ⟨hbefore, t, ht, -, hover⟩ := run_of_stopping ⟨hs, hno, rfl⟩ hstop
  refine ⟨fun k hk => ?_, t, ht, hover⟩
  obtain ⟨w, hw, hrun, hstop'⟩ := hbefore k hk
  have hjoin : w.fgStage = .join := hrun.inv.settling.stopping hstop'
  exact ⟨w, hw, hstop', hrun.inv.busy.2 (by simp [hjoin])⟩

/-- Settles O56: a command in the join leaves it when the join has counted down, and a frame of FG's counts down to the
fall of `BUSY`; the invariant bounds both counts. -/
theorem busyFallsInTime : Obligations.BusyFallsInTime := by
  intro s hs hb hno
  have hrun : WithoutReset s.params s := ⟨hs, hno, rfl⟩
  rcases hstage : s.fgStage
  case idle => exact absurd hstage (hs.busy.1 hb)
  case emit =>
    obtain ⟨t, ht, hfall⟩ := run_of_emit hrun hstage
    have hlt := hs.frameTicksLeft_lt_of_emit hstage
    exact ⟨_, t, by omega, ht, hfall⟩
  case join =>
    obtain ⟨-, -, hjoinStopping, -⟩ := hs.guarantees
    have hstop : s.rptState = .stopping := hjoinStopping hstage
    obtain ⟨-, t, ht, hrun', -, hleft⟩ := run_of_stopping hrun hstop
    have hlt := hs.joinTicksLeft_lt
    rcases hstage' : t.fgStage
    case idle =>
      exact ⟨_, t, by omega, ht, Bool.eq_false_iff.2 fun hb' => hrun'.inv.busy.1 hb' hstage'⟩
    case join => exact absurd hstage' hleft
    case emit =>
      obtain ⟨w, hw, hfall⟩ := run_of_emit hrun' hstage'
      have hlt' := hrun'.inv.frameTicksLeft_lt_of_emit hstage'
      rw [hrun'.params] at hlt'
      exact ⟨_, w, by omega, (run_add ht _).trans hw, hfall⟩

/-- Settles O6: a raw code is a word of format `B`, and the example is evaluated. -/
theorem rawCodeByteOrder : Obligations.RawCodeByteOrder :=
  ⟨toNat_packB, packB_bytes, by decide⟩

/-- Settles O24: a reserved index has no register, and is one of the read-only indices. -/
theorem reservedIndices : Obligations.ReservedIndices := fun s _ v h =>
  ⟨hostRead_reserved h s, hostWrite_read_only (by omega) v s⟩

/-- Settles O25: the first three indices by their arms and `BUSY`, and a write as the access of its instant. -/
theorem hostWrites : Obligations.HostWrites := by
  refine ⟨fun s v => ⟨fun hb => ?_, fun hb => ?_, fun hb => ?_, fun hb => ?_, rfl,
    fun idx hidx => hostWrite_read_only hidx v s⟩, fun s idx v hi => ?_⟩
  · exact if_neg (by simp [hb])
  · exact if_pos hb
  · exact if_neg (by simp [hb])
  · exact if_pos hb
  · have he : (takeInput s).1 = some (.write idx v) := hi
    rw [step, instant, he]
    rfl

end Sys2Proof.Safety

namespace Sys2Proof

open Machine (extractLsb'_eq_of_getLsbD)

/-! ## Decoding, opcode by opcode (R91, R95) -/

section
variable (arg : Word)

theorem decode_decodeRaw : decode (cmdWord opDecodeRaw arg) = .ok (.decodeRaw arg) := by
  rw [decode, opField_cmdWord, argField_cmdWord]; rfl

theorem decode_encodeRaw : decode (cmdWord opEncodeRaw arg) =
    if byte3 arg = 0 then .ok (.encodeRaw (addressField arg) (byte2 arg))
    else .error (.reservedOperandBits opEncodeRaw) := by
  rw [decode, opField_cmdWord, argField_cmdWord]; rfl

theorem decode_sendBytes : decode (cmdWord opSendBytes arg) =
    .ok (.sendBytes (byte0 arg) (byte1 arg) (byte2 arg) (byte3 arg)) := by
  rw [decode, opField_cmdWord, argField_cmdWord]; rfl

theorem decode_sendRepeatFrame : decode (cmdWord opSendRepeatFrame arg) =
    if arg = 0 then .ok .sendRepeatFrame else .error (.reservedOperandBits opSendRepeatFrame) := by
  rw [decode, opField_cmdWord, argField_cmdWord]; rfl

theorem decode_send : decode (cmdWord opSend arg) =
    if arg.extractLsb' 25 7 = 0 then .ok (.send (addressField arg) (byte2 arg) (autoRepeatField arg))
    else .error (.reservedOperandBits opSend) := by
  rw [decode, opField_cmdWord, argField_cmdWord]; rfl

theorem decode_sendRaw : decode (cmdWord opSendRaw arg) = .ok (.sendRaw arg) := by
  rw [decode, opField_cmdWord, argField_cmdWord]; rfl

theorem decode_stopRepeat : decode (cmdWord opStopRepeat arg) =
    if arg = 0 then .ok .stopRepeat else .error (.reservedOperandBits opStopRepeat) := by
  rw [decode, opField_cmdWord, argField_cmdWord]; rfl

theorem decode_configure : decode (cmdWord opConfigure arg) =
    if arg.extractLsb' 8 24 = 0 then .ok (.configure (byte0 arg))
    else .error (.reservedOperandBits opConfigure) := by
  rw [decode, opField_cmdWord, argField_cmdWord]; rfl

end

/-- The assigned opcodes are 1 to 8 (R93). -/
theorem opcode_cases {op : Byte} (h : 1 ≤ op.toNat ∧ op.toNat ≤ 8) :
    op = opDecodeRaw ∨ op = opEncodeRaw ∨ op = opSendBytes ∨ op = opSendRepeatFrame ∨ op = opSend ∨
      op = opSendRaw ∨ op = opStopRepeat ∨ op = opConfigure := by
  simp only [opDecodeRaw, opEncodeRaw, opSendBytes, opSendRepeatFrame, opSend, opSendRaw, opStopRepeat, opConfigure]
  bv_omega

/-- Every other opcode is illegal (R95). -/
theorem decode_unassigned {op : Byte} (h : ¬(1 ≤ op.toNat ∧ op.toNat ≤ 8)) (arg : Word) :
    decode (cmdWord op arg) = .error (.unassignedOpcode op) := by
  have hne : ∀ a : Byte, 1 ≤ a.toNat ∧ a.toNat ≤ 8 → op ≠ a := fun a ha he => h (he ▸ ha)
  rw [decode, opField_cmdWord, argField_cmdWord]
  simp only [hne opDecodeRaw (by decide), hne opEncodeRaw (by decide), hne opSendBytes (by decide),
    hne opSendRepeatFrame (by decide), hne opSend (by decide), hne opSendRaw (by decide),
    hne opStopRepeat (by decide), hne opConfigure (by decide), if_false]

/-! ## Reserved operand bits

Format `AC` uses the low 24 bits of the operand, `ACR` 25, `D` 8, `Z` none; the slice above them is 0. -/

/-- The slice of a word from bit `k` up is 0 exactly when the word is below `2 ^ k`. -/
theorem extractLsb'_top_eq_zero_iff {m k n : Nat} (hm : k + n = m) (v : BitVec m) :
    v.extractLsb' k n = 0 ↔ v.toNat < 2 ^ k := by
  have hdiv : v.toNat / 2 ^ k < 2 ^ n :=
    Nat.div_lt_of_lt_mul (by rw [← Nat.pow_add, hm]; exact v.isLt)
  rw [← BitVec.toNat_inj, BitVec.extractLsb'_toNat, Nat.shiftRight_eq_div_pow, Nat.mod_eq_of_lt hdiv]
  simp

/-- Below `2 ^ k` no bit from `k` up is 1. -/
theorem getLsbD_of_toNat_lt {m k i : Nat} {v : BitVec m} (h : v.toNat < 2 ^ k) (hi : k ≤ i) : v.getLsbD i = false :=
  Nat.testBit_lt_two_pow (h.trans_le (Nat.pow_le_pow_right (by decide) hi))

/-- Where the slice of a word from bit `k` up is 0, each of its bits is. -/
theorem getLsbD_of_extractLsb'_top {m k n : Nat} (hm : k + n = m) {v : BitVec m} (h : v.extractLsb' k n = 0)
    {i : Nat} (hi : k ≤ i) : v.getLsbD i = false :=
  getLsbD_of_toNat_lt ((extractLsb'_top_eq_zero_iff hm v).1 h) hi

@[simp] theorem reserved_packAC (address : Half) (command : Byte) : byte3 (packAC address command) = 0#8 :=
  extractLsb'_eq_of_getLsbD fun i _ => by
    rw [getLsbD_packAC]
    simp (disch := omega) only [if_neg, BitVec.getLsbD_zero]

@[simp] theorem reserved_packACR (address : Half) (command : Byte) (autoRepeat : Bool) :
    (packACR address command autoRepeat).extractLsb' 25 7 = 0#7 :=
  extractLsb'_eq_of_getLsbD fun i _ => by
    rw [getLsbD_packACR]
    simp (disch := omega) only [if_neg, BitVec.getLsbD_zero]

@[simp] theorem reserved_packD (duty : Byte) : (packD duty).extractLsb' 8 24 = 0#24 :=
  extractLsb'_eq_of_getLsbD fun i _ => by
    rw [getLsbD_packD]
    simp (disch := omega) only [if_neg, BitVec.getLsbD_zero]

theorem packAC_fields {v : Word} (h : byte3 v = 0) : packAC (addressField v) (byte2 v) = v := by
  refine BitVec.eq_of_getLsbD_eq fun i hi => ?_
  rw [getLsbD_packAC]
  split_ifs with h16 h24
  · simp [addressField, h16]
  · simp (disch := omega) [byte2]
  · exact (getLsbD_of_extractLsb'_top rfl h (by omega)).symm

theorem packACR_fields {v : Word} (h : v.extractLsb' 25 7 = 0) :
    packACR (addressField v) (byte2 v) (autoRepeatField v) = v := by
  refine BitVec.eq_of_getLsbD_eq fun i hi => ?_
  rw [getLsbD_packACR]
  split_ifs with h16 h24 hauto
  · simp [addressField, h16]
  · simp (disch := omega) [byte2]
  · rw [hauto, autoRepeatField]
  · exact (getLsbD_of_extractLsb'_top rfl h (by omega)).symm

theorem packD_fields {v : Word} (h : v.extractLsb' 8 24 = 0) : packD (byte0 v) = v := by
  refine BitVec.eq_of_getLsbD_eq fun i hi => ?_
  rw [getLsbD_packD]
  split_ifs with h8
  · simp [byte0, h8]
  · exact (getLsbD_of_extractLsb'_top rfl h (by omega)).symm

/-! ## Decoding and encoding undo each other (R91, R93) -/

/-- Settles O1: in its opcode's case a command's operand has no reserved bit, and its fields read back. -/
theorem decodeEncodeGivesBack : Obligations.DecodeEncodeGivesBack := by
  intro i
  cases i with
  | decodeRaw code => exact decode_decodeRaw code
  | encodeRaw address command => exact (decode_encodeRaw _).trans (by simp [Instr.operand])
  | sendBytes low high cmd invCmd => exact (decode_sendBytes _).trans (by simp [Instr.operand])
  | sendRepeatFrame => exact decode_sendRepeatFrame 0
  | send address command autoRepeat => exact (decode_send _).trans (by simp [Instr.operand])
  | sendRaw code => exact decode_sendRaw code
  | stopRepeat => exact decode_stopRepeat 0
  | configure duty => exact (decode_configure _).trans (by simp [Instr.operand])

/-- Settles O2: in each branch of the decoder the fields of the command are those of the word, and no other bit is 1. -/
theorem encodeDecodeGivesBack : Obligations.EncodeDecodeGivesBack := by
  intro w i h
  have hfields : ∀ {i : Instr}, opField w = i.opcode → i.operand = argField w → encode i = w := fun hop harg => by
    rw [encode, ← hop, harg, cmdWord_fields]
  simp only [decode] at h
  split_ifs at h with h1 h2 h2r h3 h4 h4r h5 h5r h6 h7 h7r h8 h8r <;> cases h
  · exact hfields h1 rfl
  · exact hfields h2 (packAC_fields h2r)
  · exact hfields h3 (packB_bytes _)
  · exact hfields h4 h4r.symm
  · exact hfields h5 (packACR_fields h5r)
  · exact hfields h6 rfl
  · exact hfields h7 h7r.symm
  · exact hfields h8 (packD_fields h8r)

/-! ## Which words are legal (R93, R95) -/

/-- How many low bits of the operand the format of an opcode uses, the others being reserved (R91, R93). -/
def operandWidth (op : Byte) : Nat :=
  if op = opEncodeRaw then 24
  else if op = opSendRepeatFrame ∨ op = opStopRepeat then 0
  else if op = opSend then 25
  else if op = opConfigure then 8
  else 32

/-- A word is legal exactly when its opcode is assigned and no reserved operand bit is 1. -/
theorem decode_ok_iff (op : Byte) (arg : Word) :
    (∃ i, decode (cmdWord op arg) = .ok i) ↔ (1 ≤ op.toNat ∧ op.toNat ≤ 8) ∧ arg.toNat < 2 ^ operandWidth op := by
  by_cases hop : 1 ≤ op.toNat ∧ op.toNat ≤ 8
  case neg => simp [decode_unassigned hop, hop]
  have hok : ∀ i : Instr, ∃ j, (Except.ok i : Except DecodeError Instr) = .ok j := fun i => ⟨i, rfl⟩
  have hif : ∀ {P : Prop} [Decidable P] {i : Instr} {e : DecodeError},
      (∃ j, (if P then Except.ok i else Except.error e) = .ok j) ↔ P := fun {P _ i e} => by
    by_cases hP : P <;> simp [hP]
  have hzero : arg = 0 ↔ arg.toNat < 2 ^ 0 := by rw [← BitVec.toNat_inj]; simp
  have hlt : arg.toNat < 2 ^ 32 := arg.isLt
  rw [and_iff_right hop]
  rcases opcode_cases hop with rfl | rfl | rfl | rfl | rfl | rfl | rfl | rfl
  · rw [decode_decodeRaw]; exact iff_of_true (hok _) hlt
  · rw [decode_encodeRaw, hif]; exact extractLsb'_top_eq_zero_iff (k := 24) (n := 8) rfl arg
  · rw [decode_sendBytes]; exact iff_of_true (hok _) hlt
  · rw [decode_sendRepeatFrame, hif]; exact hzero
  · rw [decode_send, hif]; exact extractLsb'_top_eq_zero_iff (k := 25) (n := 7) rfl arg
  · rw [decode_sendRaw]; exact iff_of_true (hok _) hlt
  · rw [decode_stopRepeat, hif]; exact hzero
  · rw [decode_configure, hif]; exact extractLsb'_top_eq_zero_iff (k := 8) (n := 24) rfl arg

/-- The value of a command word in its opcode and operand (R90). -/
theorem toNat_cmdWord (op : Byte) (arg : Word) : (cmdWord op arg).toNat = op.toNat * 2 ^ 32 + arg.toNat :=
  toNat_append_eq_add op arg

/-- Settles O4: the word is told by its opcode and operand, and each opcode by the width its format uses. -/
theorem illegalWordsExactly : Obligations.IllegalWordsExactly := by
  intro w
  obtain ⟨op, arg, rfl⟩ : ∃ op arg, cmdWord op arg = w := ⟨_, _, cmdWord_fields w⟩
  have herr : (∃ e, decode (cmdWord op arg) = .error e) ↔ ¬∃ i, decode (cmdWord op arg) = .ok i := by
    cases decode (cmdWord op arg) <;> simp
  have hlt : arg.toNat < 2 ^ 32 := arg.isLt
  have hdiv : (cmdWord op arg).toNat / 2 ^ 32 = op.toNat := by rw [toNat_cmdWord]; omega
  have hmod : (cmdWord op arg).toNat % 2 ^ 32 = arg.toNat := by rw [toNat_cmdWord]; omega
  rw [herr, decode_ok_iff, hdiv, hmod]
  by_cases hop : 1 ≤ op.toNat ∧ op.toNat ≤ 8
  case neg => omega
  rcases opcode_cases hop with rfl | rfl | rfl | rfl | rfl | rfl | rfl | rfl <;>
    simp [operandWidth, opDecodeRaw, opEncodeRaw, opSendBytes, opSendRepeatFrame, opSend, opSendRaw, opStopRepeat,
      opConfigure] <;> omega

/-! ## The opcode table (R92, R93) -/

/-- Every row's match and mask are those of its opcode's format: the opcode and the reserved operand bits. -/
theorem opcodeTable_rows : ∀ r ∈ opcodeTable, (1 ≤ r.opcode.toNat ∧ r.opcode.toNat ≤ 8) ∧
    r.matchBits = cmdWord r.opcode 0 ∧
      r.maskBits = cmdWord (BitVec.allOnes 8) (BitVec.allOnes 32 <<< operandWidth r.opcode) := by
  decide

/-- The opcode tells the row. -/
theorem opcodeTable_opcode_inj : ∀ r ∈ opcodeTable, ∀ r' ∈ opcodeTable, r.opcode = r'.opcode → r = r' := by
  decide

/-- Every assigned opcode has a row. -/
theorem exists_row {op : Byte} (h : 1 ≤ op.toNat ∧ op.toNat ≤ 8) : ∃ r ∈ opcodeTable, r.opcode = op := by
  rcases opcode_cases h with rfl | rfl | rfl | rfl | rfl | rfl | rfl | rfl <;> decide

/-- Masking the bits from `k` up leaves 0 exactly when the word is below `2 ^ k`. -/
theorem and_highMask_eq_zero_iff {m : Nat} (v : BitVec m) (k : Nat) :
    v &&& (BitVec.allOnes m <<< k) = 0 ↔ v.toNat < 2 ^ k := by
  constructor
  · intro h
    refine Nat.lt_pow_two_of_testBit _ fun i hi => ?_
    by_cases him : i < m
    · have hbit : (v &&& (BitVec.allOnes m <<< k)).getLsbD i = false := by rw [h]; exact BitVec.getLsbD_zero
      have hlow : i - k < m := by omega
      have hv : v.getLsbD i = false := by simpa [him, hlow, Nat.not_lt.2 hi] using hbit
      exact hv
    · exact BitVec.getLsbD_of_ge v i (Nat.not_lt.1 him)
  · intro h
    refine BitVec.eq_of_getLsbD_eq fun i _ => ?_
    rw [BitVec.getLsbD_and]
    by_cases hi : i < k
    · simp [hi]
    · rw [getLsbD_of_toNat_lt h (Nat.not_lt.1 hi)]
      exact BitVec.getLsbD_zero.symm

/-- A word selects a row exactly when it has the row's opcode and no reserved operand bit of it is 1. -/
theorem selects_iff {r : OpcodeRow} (hr : r ∈ opcodeTable) (op : Byte) (arg : Word) :
    r.selects (cmdWord op arg) = true ↔ op = r.opcode ∧ arg.toNat < 2 ^ operandWidth r.opcode := by
  obtain ⟨-, hmatch, hmask⟩ := opcodeTable_rows r hr
  have hand : cmdWord op arg &&& r.maskBits =
      cmdWord op (arg &&& (BitVec.allOnes 32 <<< operandWidth r.opcode)) := by
    rw [hmask, cmdWord, cmdWord, cmdWord]
    exact (BitVec.and_append).trans (by rw [BitVec.and_allOnes])
  rw [OpcodeRow.selects, beq_iff_eq, hand, hmatch, ← and_highMask_eq_zero_iff]
  constructor
  · intro h
    exact ⟨by simpa using congrArg opField h, by simpa using congrArg argField h⟩
  · rintro ⟨rfl, h⟩
    rw [h]

theorem encode_selects_row (i : Instr) : Laws.EncodeSelectsRow.Statement i := by
  cases i with
  | decodeRaw code => exact Laws.EncodeSelectsRow.decodeRaw code
  | encodeRaw address command => exact Laws.EncodeSelectsRow.encodeRaw address command
  | sendBytes low high cmd invCmd => exact Laws.EncodeSelectsRow.sendBytes low high cmd invCmd
  | sendRepeatFrame => exact Laws.EncodeSelectsRow.sendRepeatFrame
  | send address command autoRepeat => exact Laws.EncodeSelectsRow.send address command autoRepeat
  | sendRaw code => exact Laws.EncodeSelectsRow.sendRaw code
  | stopRepeat => exact Laws.EncodeSelectsRow.stopRepeat
  | configure duty => exact Laws.EncodeSelectsRow.configure duty

/-- Settles O3: a row selects the legal words of its opcode, its opcode tells it from the other rows, and the word of a
command selects the row of its mnemonic. -/
theorem decoderFollowsOpcodeTable : Obligations.DecoderFollowsOpcodeTable := by
  refine ⟨fun w => ?_, fun w r hr r' hr' h h' => ?_, fun w i h => ?_⟩
  · rw [← cmdWord_fields w, decode_ok_iff, wordWellFormed, List.any_eq_true]
    constructor
    · rintro ⟨hop, harg⟩
      obtain ⟨r, hr, hrow⟩ := exists_row hop
      exact ⟨r, hr, (selects_iff hr _ _).2 ⟨hrow.symm, hrow ▸ harg⟩⟩
    · rintro ⟨r, hr, hsel⟩
      obtain ⟨hassigned, -, -⟩ := opcodeTable_rows r hr
      obtain ⟨hop, harg⟩ := (selects_iff hr _ _).1 hsel
      exact ⟨hop ▸ hassigned, hop ▸ harg⟩
  · rw [← cmdWord_fields w] at h h'
    obtain ⟨hop, -⟩ := (selects_iff hr _ _).1 h
    obtain ⟨hop', -⟩ := (selects_iff hr' _ _).1 h'
    exact opcodeTable_opcode_inj r hr r' hr' (hop.symm.trans hop')
  · obtain ⟨-, -, r, hr, hname, -, hsel⟩ := encode_selects_row i
    exact ⟨r, hr, encodeDecodeGivesBack w i h ▸ hsel, hname⟩

/-- Settles O5, by evaluation. -/
theorem sampleWordsDecode : Obligations.SampleWordsDecode := by
  unfold Obligations.SampleWordsDecode
  decide

end Sys2Proof

namespace Sys2Proof.Machine

/-! ## The wire frames in closed form (R100, R102) -/

theorem length_bitIntervals_flatMap (p : Params) (F : Word) (n : Nat) :
    ((List.range n).flatMap (bitIntervals p F)).length = 2 * n := by
  induction n with
  | zero => rfl
  | succ n ih => simp [List.range_succ, ih, bitIntervals]; omega

/-- The intervals of data bit `i` stand at `2 * i` and the place after it. -/
theorem getElem?_bitIntervals_flatMap (p : Params) (F : Word) {i n : Nat} (h : i < n) :
    ((List.range n).flatMap (bitIntervals p F))[2 * i]? = some ⟨.mark, p.bitMark⟩ ∧
      ((List.range n).flatMap (bitIntervals p F))[2 * i + 1]? =
        some ⟨.space, if F.getLsbD i = true then p.bit1Space else p.bit0Space⟩ := by
  induction n with
  | zero => omega
  | succ n ih =>
    have hlen := length_bitIntervals_flatMap p F n
    rw [List.range_succ, List.flatMap_append]
    rcases Nat.lt_succ_iff_lt_or_eq.1 h with hlt | rfl
    · rw [List.getElem?_append_left (by omega), List.getElem?_append_left (by omega)]
      exact ih hlt
    · rw [List.getElem?_append_right (by omega), List.getElem?_append_right (by omega), hlen]
      simp [bitIntervals]

theorem length_frameIntervals (p : Params) (F : Word) : (frameIntervals p F).length = 67 := by
  rw [frameIntervals, List.length_append, List.length_append, length_bitIntervals_flatMap]
  rfl

/-- After the lead mark and the lead space come the intervals of the data bits. -/
theorem getElem?_frameIntervals_data (p : Params) (F : Word) {j : Nat} (h : j < 64) :
    (frameIntervals p F)[2 + j]? = ((List.range 32).flatMap (bitIntervals p F))[j]? := by
  have hlen := length_bitIntervals_flatMap p F 32
  rw [frameIntervals, List.getElem?_append_left (by simp [hlen]; omega), List.getElem?_append_right (by simp)]
  simp

theorem getElem?_frameIntervals_trail (p : Params) (F : Word) :
    (frameIntervals p F)[66]? = some ⟨.mark, p.trailMark⟩ := by
  have hlen := length_bitIntervals_flatMap p F 32
  rw [frameIntervals, List.getElem?_append_right (by simp [hlen])]
  simp [hlen]

theorem totalDuration_append (l l' : List Interval) :
    totalDuration (l ++ l') = totalDuration l + totalDuration l' := by
  induction l with
  | nil => simp [totalDuration]
  | cons iv l ih => simp only [List.cons_append, totalDuration, ih, Nat.add_assoc]

theorem totalDuration_bitIntervals (p : Params) (F : Word) (n : Nat) :
    totalDuration ((List.range n).flatMap (bitIntervals p F)) = bitsDuration p F n := by
  induction n with
  | zero => rfl
  | succ n ih =>
    rw [List.range_succ, List.flatMap_append, totalDuration_append, ih]
    simp [bitIntervals, totalDuration, bitsDuration]

theorem totalDuration_frameIntervals (p : Params) (F : Word) :
    totalDuration (frameIntervals p F) = frameDuration p F := by
  simp only [frameIntervals, totalDuration_append, totalDuration_bitIntervals, totalDuration, frameDuration_eq]
  omega

/-- Settles O15: lead, data bits and trail are summed apart, the data bits by induction on how many. -/
theorem frameDurationIsSum : Obligations.FrameDurationIsSum := fun p F =>
  ⟨totalDuration_frameIntervals p F, (totalDuration_frameIntervals p F).symm⟩

/-- Settles O14: the data bits by their place in the list, and the bytes of the frame word by their place in it. -/
theorem fullFrameIntervals : Obligations.FullFrameIntervals := by
  intro p F
  refine ⟨length_frameIntervals p F, rfl, rfl, fun i hi => ?_, getElem?_frameIntervals_trail p F,
    fun low high cmd invCmd i hi => ?_⟩
  · obtain ⟨hmark, hspace⟩ := getElem?_bitIntervals_flatMap p F hi
    rw [← hmark, ← hspace, ← getElem?_frameIntervals_data p F (by omega),
      ← getElem?_frameIntervals_data p F (by omega), show 3 + 2 * i = 2 + (2 * i + 1) by omega]
    exact ⟨rfl, rfl⟩
  · simp (disch := omega) only [rawCode, getLsbD_packB, if_pos, if_neg, Nat.add_sub_cancel_left, and_self]

/-! ## The issue of a command in a step (R92, R216) -/

theorem issue_of_decode {op : Byte} {s : State} {i : Instr} (h : decode (cmdWord op s.cmdArgReg) = .ok i) :
    issue op s = exec i s := by
  simp only [issue, h]

/-- Settles O29: the input due is taken, and a write to `CMD_OP` while not busy is the issue. -/
theorem stepRunsDecodedCommand : Obligations.StepRunsDecodedCommand := by
  intro s v rest i hb hin hd
  have htake : takeInput s = (some (.write 1 v), { s with inputs := rest }) := by simp only [takeInput, hin]
  have hwrite : hostWrite 1 v { s with inputs := rest } = exec i { s with inputs := rest } :=
    (if_neg (by simp [hb])).trans (issue_of_decode hd)
  rw [step, instant, htake, ← hwrite]
  rfl

theorem decode_of_decodeTableWord {nbits w : Nat} {i : Instr} (h : decodeTableWord nbits w = some i) :
    decode (tableWord nbits w) = .ok i := by
  unfold decodeTableWord at h
  split at h
  · next hd => rw [hd, Option.some.inj h]
  · cases h

/-- Settles O30: placing a word makes its opcode the write due and its operand `CMD_ARG`, so it is issued whole. -/
theorem placedWordIsRun : Obligations.PlacedWordIsRun := by
  intro s nbits w i hb h
  have hd := decode_of_decodeTableWord h
  have harg : argField (tableWord nbits w) = i.operand := by
    rw [← encodeDecodeGivesBack _ _ hd, encode, argField_cmdWord]
  have hstep := stepRunsDecodedCommand (s.withFetchWord nbits w) ((opField (tableWord nbits w)).setWidth 32) s.inputs i
    hb rfl (by rw [byte0_setWidth]; exact (congrArg decode (cmdWord_fields _)).trans hd)
  rw [hstep, ← harg]
  rfl

/-- Settles O19: each of the four begins a join with its word latched, and a join requests the cancellation. -/
theorem joiningCommandsIssue : Obligations.JoiningCommandsIssue := by
  intro op arg auto i s hi
  have hexec : exec i s = .next (beginJoin (latch op arg auto s)) := by
    rcases hi with ⟨l, h, c, v, rfl, rfl, rfl, rfl⟩ | ⟨rfl, rfl, rfl, rfl⟩ | ⟨a, c, r, rfl, rfl, rfl, rfl⟩ |
      ⟨rfl, rfl, rfl, rfl⟩
    all_goals exact exec_of_joining rfl s
  refine ⟨cancelLatency s, cancelLatency_le s, cancelLatency_of_bgEmitting, hexec.trans (congrArg Host.Outcome.next ?_)⟩
  rw [beginJoin]
  rcases requestCancel_cases { latch op arg auto s with busy := true, fgStage := .join } with ⟨hr, he⟩ | ⟨hr, he⟩
  · have hr' : s.rptState = .repeating := hr
    have hbg : bgEmitting { latch op arg auto s with busy := true, fgStage := .join } = bgEmitting s := rfl
    have hlat : cancelLatency { latch op arg auto s with busy := true, fgStage := .join } = cancelLatency s := rfl
    rw [he, hbg, hlat]
    cases bgEmitting s <;> simp [hr', latch, toWord]
  · have hr' : s.rptState ≠ .repeating := hr
    rw [he]
    simp [hr', latch]

end Sys2Proof.Machine

namespace Sys2Proof.Machine

open Sys2Proof.Safety (run run_succ run_add)

/-! ## The emitter on its own (R153, R216)

What instants without access do to a frame in progress, as whole states, where no transition but the end of an interval
can come. -/

/-- No input is to come, and neither a join nor the stop of a session is awaited: a frame in progress runs alone. -/
structure EmitterAlone (s : State) : Prop where
  inputs : s.inputs = []
  noJoin : s.fgStage ≠ .join
  noStop : s.rptState ≠ .stopping

/-- With no input to come a step is the rest of an instant. -/
theorem step_of_no_input {s : State} (h : s.inputs = []) : step s = finishInstant s := by
  rw [step, instant, show takeInput s = (none, s) by simp only [takeInput, h]]
  rfl

/-- An instant in which nothing is enabled is its tick. -/
theorem finishInstant_quiet {s : State} (h : zeroTime s = none) : finishInstant s = .next (tick s) :=
  finishInstant_of_settle (n := 0) (settle_quiet h) (by decide)

/-- An instant of one transition, after which nothing is enabled. -/
theorem finishInstant_one {s u : State} (h : zeroTime s = some u) (hu : zeroTime u = none) :
    finishInstant s = .next (tick u) :=
  finishInstant_of_settle (n := 1) ((settle_step h).trans (settle_quiet hu)) (by decide)

/-- With no input to come, an interval that is over ends in the step, and nothing else comes where nothing is enabled
then. -/
theorem step_of_interval_over {s : State} (hin : s.inputs = []) (hne : s.seqPhase ≠ .idle) (h0 : s.ivlCnt = 0)
    (hq : zeroTime (intervalEnd s) = none) : step s = .next (tick (intervalEnd s)) :=
  (step_of_no_input hin).trans (finishInstant_one (if_pos ((intervalEndEnabled_iff s).2 ⟨hne, h0⟩)) hq)

theorem EmitterAlone.zeroTime_inside {s : State} (h : EmitterAlone s) (hne : s.seqPhase ≠ .idle)
    (h0 : s.ivlCnt ≠ 0) : zeroTime s = none := by
  rw [zeroTime_none_iff]
  exact ⟨by simpa [intervalEndEnabled, hne] using h0, by simp [bgStopEnabled, h.noStop],
    by simp [fgJoinDoneEnabled, h.noJoin], by simp [bgFireEnabled, hne]⟩

theorem EmitterAlone.step_inside {s : State} (h : EmitterAlone s) (hne : s.seqPhase ≠ .idle) (h0 : s.ivlCnt ≠ 0) :
    step s = .next (tick s) :=
  (step_of_no_input h.inputs).trans (finishInstant_quiet (h.zeroTime_inside hne h0))

/-- A tick inside a frame that runs alone moves only the time and the interval's counter. -/
theorem EmitterAlone.tick_eq {s : State} (h : EmitterAlone s) (hne : s.seqPhase ≠ .idle) :
    tick s = { s with now := s.now + 1, ivlCnt := s.ivlCnt - 1 } := by
  simp [tick, hne, h.noStop]

/-- An interval runs to its end. -/
theorem EmitterAlone.run_interval {s : State} (h : EmitterAlone s) (hne : s.seqPhase ≠ .idle) :
    run s.ivlCnt.toNat s = .next { s with now := s.now + s.ivlCnt.toNat, ivlCnt := 0 } := by
  induction hn : s.ivlCnt.toNat generalizing s with
  | zero =>
    have h0 : s.ivlCnt = 0 := BitVec.eq_of_toNat_eq hn
    simp only [← h0]
    rfl
  | succ n ih =>
    have h0 : s.ivlCnt ≠ 0 := fun h0 => by simp [h0] at hn
    rw [run_succ (h.step_inside hne h0), h.tick_eq hne,
      ih (s := { s with now := s.now + 1, ivlCnt := s.ivlCnt - 1 }) ⟨h.inputs, h.noJoin, h.noStop⟩ hne
        (by dsimp only; bv_omega), Nat.add_right_comm, Nat.add_assoc]

/-- From a step that ends where an interval has just been entered to the end of that interval. -/
theorem EmitterAlone.run_entered {s x : State} (h : EmitterAlone x) (hne : x.seqPhase ≠ .idle) (h0 : x.ivlCnt ≠ 0)
    (hstep : step s = .next (tick x)) :
    run x.ivlCnt.toNat s = .next { x with now := x.now + x.ivlCnt.toNat, ivlCnt := 0 } := by
  obtain ⟨n, hn⟩ : ∃ n, x.ivlCnt.toNat = n + 1 := Nat.exists_eq_succ_of_ne_zero fun hz => h0 (BitVec.eq_of_toNat_eq hz)
  have hrun := h.run_interval hne
  rw [hn, run_succ (h.step_inside hne h0)] at hrun
  rw [hn, run_succ hstep, hrun]

/-- All that a write to the setter in a mark changes, with the write. -/
theorem carrierIfMark_record (ph : Phase) (v : Nat) (s : State) :
    carrierIfMark ph v s = { s with
      carrierValue := if isMark ph = true then v else s.carrierValue
      trace := s.trace ++ (valueIfMark ph v).map fun x => (s.now, x) } := by
  obtain ⟨tr, he⟩ := carrierIfMark_eq ph v s
  have htr := (carrierIfMark_writes ph v s).trace
  rw [he] at htr ⊢
  rw [← htr]

/-- All that entering an interval changes, with what it writes (R153). -/
theorem enter_record (ph : Phase) (i : BitVec 5) (s : State) :
    enter ph i s = { s with
      seqPhase := ph, bitIdx := i, ivlCnt := toWord (dur s.params ph i s.frame)
      durAcc := s.durAcc + toWord (dur s.params ph i s.frame)
      carrierValue := if isMark ph = true then onValue s else s.carrierValue
      trace := s.trace ++ (valueIfMark ph (onValue s)).map fun v => (s.now, v) } := by
  rw [enter, carrierIfMark_record]
  rfl

/-- All that the start of a frame changes, with what its lead mark writes (R153). -/
theorem startFrame_record (o : Owner) (k : FrameKind) (s : State) :
    startFrame o k s = { s with
      seqOwner := o, seqPhase := firstPhase k, bitIdx := 0
      ivlCnt := toWord (dur s.params (firstPhase k) 0 s.frame)
      durAcc := toWord (dur s.params (firstPhase k) 0 s.frame), carrierValue := onValue s
      trace := s.trace ++ [(s.now, onValue s)] } := by
  obtain ⟨tr, he⟩ := startFrame_eq o k s
  have htr := (startFrame_writes o k s).trace
  rw [he] at htr ⊢
  rw [show tr = _ from htr]
  rfl

/-- From the end of an interval to the end of the next one of its frame (R153). -/
theorem EmitterAlone.run_next {s : State} (h : EmitterAlone s) (hp : s.params.Valid) (hne : s.seqPhase ≠ .idle)
    (h0 : s.ivlCnt = 0) {ph : Phase} {i : BitVec 5} (hn : nextPosition s.seqPhase s.bitIdx = some (ph, i)) :
    run (dur s.params ph i s.frame) s = .next { enter ph i (carrierIfMark s.seqPhase 0 s) with
      now := s.now + dur s.params ph i s.frame, ivlCnt := 0 } := by
  have hload : (toWord (dur s.params ph i s.frame)).toNat = dur s.params ph i s.frame :=
    Nat.mod_eq_of_lt (dur_lt hp ph i s.frame)
  have hend : intervalEnd s = enter ph i (carrierIfMark s.seqPhase 0 s) := by
    rcases intervalEnd_cases s with ⟨ph', i', hn', he⟩ | ⟨hn', -⟩ <;> cases hn.symm.trans hn'
    exact he
  have halone : EmitterAlone (enter ph i (carrierIfMark s.seqPhase 0 s)) :=
    ⟨by simpa using h.inputs, by simpa using h.noJoin, by simpa using h.noStop⟩
  have hphase : (enter ph i (carrierIfMark s.seqPhase 0 s)).seqPhase ≠ .idle := by
    simpa using nextPosition_ne_idle hn
  have hcnt : (enter ph i (carrierIfMark s.seqPhase 0 s)).ivlCnt ≠ 0 := by
    simpa using toWord_dur_ne_zero hp (nextPosition_ne_idle hn) i s.frame
  have hstep := step_of_interval_over h.inputs hne h0 (by rw [hend]; exact halone.zeroTime_inside hphase hcnt)
  rw [hend] at hstep
  simpa [hload] using halone.run_entered hphase hcnt hstep

/-! ## A frame from interval to interval -/

/-- `u` with `n` ticks of a frame of `o`'s gone by, at the end of the interval `ph` of data bit `i`, when the pairs `tr`
have joined TRACE. -/
def atIntervalEnd (o : Owner) (ph : Phase) (i : BitVec 5) (n : Nat) (tr : List (Nat × Nat)) (u : State) : State :=
  { u with
    seqOwner := o, seqPhase := ph, bitIdx := i, ivlCnt := 0, durAcc := toWord n
    carrierValue := if isMark ph then onValue u else 0, now := u.now + n, trace := u.trace ++ tr }

/-- From a step that starts a frame to the end of the frame's first interval. -/
theorem EmitterAlone.run_firstInterval {s u : State} {o : Owner} {k : FrameKind} (h : EmitterAlone u)
    (hp : u.params.Valid) (hstep : step s = .next (tick (startFrame o k u))) :
    run (dur u.params (firstPhase k) 0 u.frame) s =
      .next (atIntervalEnd o (firstPhase k) 0 (dur u.params (firstPhase k) 0 u.frame) [(u.now, onValue u)] u) := by
  have hph : firstPhase k ≠ .idle := by cases k <;> decide
  have hmark : isMark (firstPhase k) = true := by cases k <;> rfl
  have hload : (toWord (dur u.params (firstPhase k) 0 u.frame)).toNat = dur u.params (firstPhase k) 0 u.frame :=
    Nat.mod_eq_of_lt (dur_lt hp (firstPhase k) 0 u.frame)
  have hrun := EmitterAlone.run_entered (x := startFrame o k u)
    ⟨by simpa using h.inputs, by simpa using h.noJoin, by simpa using h.noStop⟩ (by simpa using hph)
    (by simpa using toWord_dur_ne_zero hp hph 0 u.frame) hstep
  rw [startFrame_ivlCnt, hload, startFrame_record] at hrun
  rw [hrun, atIntervalEnd, hmark]
  rfl

/-- From the end of an interval to the end of the next one of its frame. -/
theorem EmitterAlone.run_nextInterval {u : State} (h : EmitterAlone u) (hp : u.params.Valid) {o : Owner}
    {ph ph' : Phase} {i i' : BitVec 5} {n : Nat} {tr : List (Nat × Nat)} (hne : ph ≠ .idle)
    (hn : nextPosition ph i = some (ph', i')) :
    run (dur u.params ph' i' u.frame) (atIntervalEnd o ph i n tr u) =
      .next (atIntervalEnd o ph' i' (n + dur u.params ph' i' u.frame)
        (tr ++ (valueIfMark ph 0 ++ valueIfMark ph' (onValue u)).map fun v => (u.now + n, v)) u) := by
  have halone : EmitterAlone (atIntervalEnd o ph i n tr u) := ⟨h.inputs, h.noJoin, h.noStop⟩
  have hrun := halone.run_next hp hne rfl hn
  rw [enter_record, carrierIfMark_record] at hrun
  refine hrun.trans ?_
  cases hm : isMark ph <;> simp [atIntervalEnd, toWord, BitVec.ofNat_add, Nat.add_assoc, onValue, hm]

/-- The pairs a repeat frame started at `t` has written by the time its last interval runs (R103, R157). -/
def repeatEdges (on t : Nat) (p : Params) : List (Nat × Nat) :=
  [(t, on), (t + p.leadMark, 0), (t + (p.leadMark + p.repeatSpace), on)]

/-- A repeat frame writes one pair more, where its last interval ends. -/
theorem intervalsTrace_repeatIntervals (on t : Nat) (p : Params) :
    intervalsTrace on t (repeatIntervals p) = repeatEdges on t p ++ [(t + p.repeatDuration, 0)] := by
  simp [intervalsTrace, repeatIntervals, repeatEdges, Params.repeatDuration, Nat.add_assoc]

/-- From a step that starts a repeat frame to the end of its last interval (R103). -/
theorem EmitterAlone.run_repeatFrame {s u : State} {o : Owner} (h : EmitterAlone u) (hp : u.params.Valid)
    (hstep : step s = .next (tick (startFrame o .repeatFrame u))) :
    run u.params.repeatDuration s = .next (atIntervalEnd o .rptTrailMark 0 u.params.repeatDuration
      (repeatEdges (onValue u) u.now u.params) u) := by
  have hlead := h.run_firstInterval hp hstep
  have hspace := h.run_nextInterval hp (o := o) (ph := .rptLeadMark) (i := 0) (n := u.params.leadMark)
    (tr := [(u.now, onValue u)]) nofun rfl
  have htrail := h.run_nextInterval hp (o := o) (ph := .rptSpace) (i := 0)
    (n := u.params.leadMark + u.params.repeatSpace) (tr := [(u.now, onValue u), (u.now + u.params.leadMark, 0)])
    nofun rfl
  exact (run_add ((run_add hlead _).trans hspace) _).trans htrail

/-- The end of a frame whose last interval is a mark. -/
theorem intervalEnd_of_last {s : State} (hmark : isMark s.seqPhase = true)
    (hn : nextPosition s.seqPhase s.bitIdx = none) : intervalEnd s = frameEnd (carrierSet 0 s) := by
  simp [intervalEnd, advance, carrierIfMark, hmark, hn]

theorem ne_idle_of_isMark {ph : Phase} (h : isMark ph = true) : ph ≠ .idle :=
  fun hi => absurd (hi ▸ h) (by decide)

/-- The end of FG's frame, where no session is on and none is asked for: FG is idle, with its results (R213). -/
theorem EmitterAlone.step_foregroundEnd {u : State} (h : EmitterAlone u) (hidle : u.rptState = .idle)
    (hauto : ¬(u.cmdOp = opSend ∧ u.autoRpt = true)) {ph : Phase} {i : BitVec 5} {n : Nat} {tr : List (Nat × Nat)}
    (hmark : isMark ph = true) (hn : nextPosition ph i = none) :
    step (atIntervalEnd .fg ph i n tr u) = .next { u with
      seqOwner := .fg, seqPhase := .idle, bitIdx := i, ivlCnt := 0, durAcc := toWord n, rDuration := toWord n
      fgStage := .idle, busy := false, carrierValue := 0, now := u.now + n + 1
      trace := u.trace ++ (tr ++ [(u.now + n, 0)]) } := by
  have hend : intervalEnd (atIntervalEnd .fg ph i n tr u) = { u with
      seqOwner := .fg, seqPhase := .idle, bitIdx := i, ivlCnt := 0, durAcc := toWord n, rDuration := toWord n
      fgStage := .idle, busy := false, carrierValue := 0, now := u.now + n
      trace := u.trace ++ (tr ++ [(u.now + n, 0)]) } := by
    rw [intervalEnd_of_last hmark hn, ← List.append_assoc]
    rcases fgComplete_eq (toWord n) { carrierSet 0 (atIntervalEnd .fg ph i n tr u) with seqPhase := .idle }
      with ⟨ha, -⟩ | ⟨-, he⟩
    · exact absurd ha hauto
    · exact he
  have hstep := step_of_interval_over (s := atIntervalEnd .fg ph i n tr u) h.inputs (ne_idle_of_isMark hmark) rfl (by
    rw [hend, zeroTime_none_iff]
    simp [intervalEndEnabled, bgStopEnabled, fgJoinDoneEnabled, bgFireEnabled, hidle])
  rw [hstep, hend]
  simp [tick, hidle]

/-- The end of BG's frame in a session with time left in the period: BG waits, and a tick of the wait passes (R204). -/
theorem EmitterAlone.step_backgroundEnd {u : State} (h : EmitterAlone u) (hp : u.params.Valid)
    (hsession : u.rptState = .repeating) {ph : Phase} {i : BitVec 5} {n : Nat} {tr : List (Nat × Nat)}
    (hmark : isMark ph = true) (hn : nextPosition ph i = none) (hlt : n < u.params.repeatPeriod) :
    step (atIntervalEnd .bg ph i n tr u) = .next { u with
      seqOwner := .bg, seqPhase := .idle, bitIdx := i, ivlCnt := 0, durAcc := toWord n
      rptWait := toWord (u.params.repeatPeriod - n - 1), carrierValue := 0, now := u.now + n + 1
      trace := u.trace ++ (tr ++ [(u.now + n, 0)]) } := by
  obtain ⟨-, -, -, -, ⟨hperiod, -⟩, -⟩ := hp
  have hsum : (toWord n).toNat = n := Nat.mod_eq_of_lt (hlt.trans hperiod)
  have hwait : toWord (u.params.repeatPeriod - n) ≠ 0#32 := by
    simp only [toWord]; bv_omega
  have hend : intervalEnd (atIntervalEnd .bg ph i n tr u) = { u with
      seqOwner := .bg, seqPhase := .idle, bitIdx := i, ivlCnt := 0, durAcc := toWord n
      rptWait := toWord (u.params.repeatPeriod - n), carrierValue := 0, now := u.now + n
      trace := u.trace ++ (tr ++ [(u.now + n, 0)]) } := by
    rw [intervalEnd_of_last hmark hn, ← List.append_assoc, show u.params.repeatPeriod - n =
      satSub u.params.repeatPeriod (toWord n).toNat by rw [hsum]; rfl]
    rfl
  have hstep := step_of_interval_over (s := atIntervalEnd .bg ph i n tr u) h.inputs (ne_idle_of_isMark hmark) rfl (by
    rw [hend, zeroTime_none_iff]
    exact ⟨rfl, by simp [bgStopEnabled, hsession], by simp [fgJoinDoneEnabled, hsession],
      by simpa [bgFireEnabled, hsession] using hwait⟩)
  have hless : toWord (u.params.repeatPeriod - n - 1) = toWord (u.params.repeatPeriod - n) - 1 := by
    simp only [toWord]; bv_omega
  rw [hstep, hend, hless]
  simp [tick, hsession, hwait]

/-! ## A session left alone (R203, R204) -/

/-- A session is on, BG waits between frames, and no input is to come. -/
structure SessionWaits (s : State) : Prop where
  inputs : s.inputs = []
  noJoin : s.fgStage ≠ .join
  session : s.rptState = .repeating
  between : s.seqPhase = .idle

theorem SessionWaits.emitterAlone {s : State} (h : SessionWaits s) : EmitterAlone s :=
  ⟨h.inputs, h.noJoin, by simp [h.session]⟩

/-- A step of the wait. -/
theorem SessionWaits.step_waiting {s : State} (h : SessionWaits s) (h0 : s.rptWait ≠ 0) :
    step s = .next { s with now := s.now + 1, rptWait := s.rptWait - 1 } := by
  have hq : zeroTime s = none := by
    rw [zeroTime_none_iff]
    exact ⟨by simp [intervalEndEnabled, h.between], by simp [bgStopEnabled, h.session],
      by simp [fgJoinDoneEnabled, h.session], by simpa [bgFireEnabled, h.session, h.between] using h0⟩
  have htick : tick s = { s with now := s.now + 1, rptWait := s.rptWait - 1 } := by
    have hne : ¬s.rptWait = 0#32 := h0
    simp [tick, h.session, h.between, hne]
  rw [step_of_no_input h.inputs, finishInstant_quiet hq, htick]

/-- The wait runs to its end. -/
theorem SessionWaits.run_wait {s : State} (h : SessionWaits s) :
    run s.rptWait.toNat s = .next { s with now := s.now + s.rptWait.toNat, rptWait := 0 } := by
  induction hn : s.rptWait.toNat generalizing s with
  | zero =>
    have h0 : s.rptWait = 0 := BitVec.eq_of_toNat_eq hn
    simp only [← h0]
    rfl
  | succ n ih =>
    have h0 : s.rptWait ≠ 0 := fun h0 => by simp [h0] at hn
    rw [run_succ (h.step_waiting h0), ih (s := { s with now := s.now + 1, rptWait := s.rptWait - 1 })
      ⟨h.inputs, h.noJoin, h.session, h.between⟩ (by dsimp only; bv_omega), Nat.add_right_comm, Nat.add_assoc]

/-- At the end of the wait BG starts a repeat frame (R204). -/
theorem SessionWaits.step_fire {s : State} (h : SessionWaits s) (hp : s.params.Valid) (h0 : s.rptWait = 0) :
    step s = .next (tick (startFrame .bg .repeatFrame s)) := by
  have hz : zeroTime s = some (bgFire s) := by
    simp [zeroTime, intervalEndEnabled, bgStopEnabled, fgJoinDoneEnabled, bgFireEnabled, h.session, h.between, h0]
  exact (step_of_no_input h.inputs).trans (finishInstant_one hz (zeroTime_bgFire hp h.session))

/-- From the end of a wait to the end of the next: one repeat frame goes out, and a period passes (R204). -/
theorem SessionWaits.run_period {s : State} (h : SessionWaits s) (hp : s.params.Valid)
    (hlt : s.params.repeatDuration < s.params.repeatPeriod) (h0 : s.rptWait = 0) (hoff : s.carrierValue = 0) :
    run s.params.repeatPeriod s = .next { s with
      bitIdx := 0, ivlCnt := 0, durAcc := toWord s.params.repeatDuration, seqOwner := .bg
      now := s.now + s.params.repeatPeriod
      trace := s.trace ++ intervalsTrace (onValue s) s.now (repeatIntervals s.params) } := by
  have hframe := h.emitterAlone.run_repeatFrame hp (h.step_fire hp h0)
  have hend := h.emitterAlone.step_backgroundEnd hp h.session (ph := .rptTrailMark) (i := 0)
    (tr := repeatEdges (onValue s) s.now s.params) rfl rfl hlt
  rw [← intervalsTrace_repeatIntervals] at hend
  have hwait := SessionWaits.run_wait (s := { s with
    seqOwner := .bg, seqPhase := .idle, bitIdx := 0, ivlCnt := 0, durAcc := toWord s.params.repeatDuration
    rptWait := toWord (s.params.repeatPeriod - s.params.repeatDuration - 1), carrierValue := 0
    now := s.now + s.params.repeatDuration + 1
    trace := s.trace ++ intervalsTrace (onValue s) s.now (repeatIntervals s.params) })
    ⟨h.inputs, h.noJoin, h.session, rfl⟩
  obtain ⟨-, -, -, -, ⟨hperiod, -⟩, -⟩ := hp
  have hload : (toWord (s.params.repeatPeriod - s.params.repeatDuration - 1)).toNat =
      s.params.repeatPeriod - s.params.repeatDuration - 1 := Nat.mod_eq_of_lt (by omega)
  have htotal : s.params.repeatPeriod =
      s.params.repeatDuration + (s.params.repeatPeriod - s.params.repeatDuration - 1 + 1) := by omega
  have hnow : s.now + s.params.repeatDuration + 1 + (s.params.repeatPeriod - s.params.repeatDuration - 1) =
      s.now + s.params.repeatPeriod := by omega
  rw [hload, hnow] at hwait
  calc run s.params.repeatPeriod s
      = run (s.params.repeatDuration + (s.params.repeatPeriod - s.params.repeatDuration - 1 + 1)) s := by rw [← htotal]
    _ = _ := (run_add hframe _).trans ((run_succ hend _).trans hwait)
    _ = _ := by simp [h.between, hoff, h0]

/-- Runs of equal length, one after the other. -/
theorem run_mul {f : Nat → State} {a : Nat} (h : ∀ k, run a (f k) = .next (f (k + 1))) (n : Nat) :
    run (n * a) (f 0) = .next (f n) := by
  induction n with
  | zero => rw [Nat.zero_mul]; rfl
  | succ n ih => rw [Nat.succ_mul, run_add ih, h]

/-- A session from the end of a wait, `n` periods later: as many repeat frames have gone out (R204, R217). -/
def afterPeriods (s : State) (n : Nat) : State :=
  { s with
    now := s.now + n * s.params.repeatPeriod
    trace := s.trace ++ (List.range n).flatMap fun j =>
      intervalsTrace (onValue s) (s.now + j * s.params.repeatPeriod) (repeatIntervals s.params)
    bitIdx := if n = 0 then s.bitIdx else 0, ivlCnt := if n = 0 then s.ivlCnt else 0
    durAcc := if n = 0 then s.durAcc else toWord s.params.repeatDuration
    seqOwner := if n = 0 then s.seqOwner else .bg }

theorem SessionWaits.run_periods {s : State} (h : SessionWaits s) (hp : s.params.Valid)
    (hlt : s.params.repeatDuration < s.params.repeatPeriod) (h0 : s.rptWait = 0) (hoff : s.carrierValue = 0) (n : Nat) :
    run (n * s.params.repeatPeriod) s = .next (afterPeriods s n) := by
  have hperiod : ∀ k, run s.params.repeatPeriod (afterPeriods s k) = .next (afterPeriods s (k + 1)) := fun k => by
    have hwaits : SessionWaits (afterPeriods s k) := ⟨h.inputs, h.noJoin, h.session, h.between⟩
    refine (hwaits.run_period hp hlt h0 hoff).trans ?_
    simp [afterPeriods, onValue, List.range_succ, Nat.succ_mul, Nat.add_assoc]
  have hzero : afterPeriods s 0 = s := by simp [afterPeriods]
  have hrun := run_mul hperiod n
  rwa [hzero] at hrun

end Sys2Proof.Machine

namespace Sys2Proof.Safety

open Sys2Proof.Machine

/-- Between instants the carrier is off between frames (R42 point 5). -/
theorem Inv.carrier_off_of_idle {s : State} (h : Inv s) (hi : s.seqPhase = .idle) : s.carrierValue = 0 := by
  obtain ⟨-, -, -, -, ⟨hoff, -⟩, -⟩ := h.guarantees
  by_contra hne
  simpa [hi, isMark] using hoff hne

theorem Inv.sessionWaits {s : State} (h : Inv s) (hr : s.rptState = .repeating) (hi : s.seqPhase = .idle)
    (hin : s.inputs = []) : SessionWaits s :=
  ⟨hin, fun hj => h.settling.joinSession hj hr, hr, hi⟩

/-- Settles O53: the wait in progress runs out, and then each period is a repeat frame and the wait after it. -/
theorem sessionKeepsCadence : Obligations.SessionKeepsCadence := by
  intro s n hs hr hi hin hlt
  have hwaits := hs.sessionWaits hr hi hin
  have hperiods := SessionWaits.run_periods (s := { s with now := s.now + s.rptWait.toNat, rptWait := 0 })
    ⟨hin, hwaits.noJoin, hr, hi⟩ hs.params hlt rfl (hs.carrier_off_of_idle hi) n
  exact (run_add hwaits.run_wait _).trans hperiods

end Sys2Proof.Safety

namespace Sys2Proof.Safety

open Sys2Proof.Machine

/-! ## A joining command in a quiescent block (R92, R212) -/

/-- The next step is the issue of the command that is to come (R90, R92). -/
theorem step_of_aboutToIssue {i : Instr} {s : State} (h : AboutToIssue i s) (hb : s.busy = false) :
    step s = andThen (exec i { s with inputs := [] }) finishInstant := by
  obtain ⟨harg, hin⟩ := h
  refine stepRunsDecodedCommand s _ [] i hb hin ?_
  rw [byte0_setWidth, harg]
  exact decodeEncodeGivesBack i

/-- `s` with the command `i` latched and FG in the join, no input being left. -/
def inJoin (i : Instr) (s : State) : State :=
  { s with
    cmdOp := i.opcode, cmdArg := i.operand, autoRpt := startsSession i, busy := true, fgStage := .join, inputs := [] }

/-- `s` with FG about to start the frame of the command `i`. -/
def leavingJoin (i : Instr) (s : State) : State := { inJoin i s with fgStage := .emit }

/-- Where no session is on, a joining command leaves the join in the step of its issue (R211, R212). -/
theorem step_of_joining {i : Instr} {s : State} (hp : s.params.Valid) (hs : Quiescent s) (h : AboutToIssue i s)
    (hj : joining i.opcode i.operand = true) : step s = .next (tick (fgJoinDone (inJoin i s))) := by
  obtain ⟨hb, hr, hi⟩ := hs
  have hexec : exec i { s with inputs := [] } = .next (inJoin i s) := by
    rw [exec_of_joining hj]
    rcases beginJoin_cases (latch i.opcode i.operand (startsSession i) { s with inputs := [] }) with
      ⟨-, he⟩ | ⟨hr', -⟩
    · rw [he]; rfl
    · exact absurd (hr.symm.trans hr') (by decide)
  have hruns : intervalEndEnabled (inJoin i s) = false := by simp [intervalEndEnabled, inJoin, hi]
  have hstop : bgStopEnabled (inJoin i s) = false := by simp [bgStopEnabled, inJoin, hr]
  have hdone : fgJoinDoneEnabled (inJoin i s) = true := (fgJoinDoneEnabled_iff _).2 ⟨rfl, hr, hj⟩
  have hz : zeroTime (inJoin i s) = some (fgJoinDone (inJoin i s)) := by simp [zeroTime, hruns, hstop, hdone]
  rw [step_of_aboutToIssue h hb, hexec]
  exact finishInstant_one hz (zeroTime_fgJoinDone hp hruns hr)

/-! ## BUSY while a foreground frame goes out (R213) -/

/-- Where a frame starts, all of it is left. -/
theorem frameTicksLeft_startFrame {s : State} (hp : s.params.Valid) (o : Owner) (k : FrameKind) :
    frameTicksLeft (startFrame o k s) = wholeDuration s.params s.frame (firstPhase k) := by
  have hload : (toWord (dur s.params (firstPhase k) 0 s.frame)).toNat = dur s.params (firstPhase k) 0 s.frame :=
    Nat.mod_eq_of_lt (dur_lt hp (firstPhase k) 0 s.frame)
  have hle := startedDuration_le_whole s.params s.frame (firstPhase k) 0
  have hstarted := startedDuration_firstPhase s.params s.frame k
  simp only [frameTicksLeft, startFrame_ivlCnt, startFrame_params, startFrame_frame, startFrame_seqPhase,
    startFrame_bitIdx, hload]
  omega

/-- While ticks are left of FG's frame, `BUSY` stays 1. -/
theorem run_busy_of_emit {p : Params} {s : State} (hs : WithoutReset p s) (he : s.fgStage = .emit) {k : Nat}
    (hk : k ≤ frameTicksLeft s) : ∃ t, run k s = .next t ∧ t.busy = true := by
  obtain ⟨hbefore, -⟩ := run_countdown (P := fun s => WithoutReset p s ∧ s.fgStage = .emit) (Q := fun _ => True)
    (m := frameTicksLeft) (fun _ hp => hp.1.step_next)
    (fun s t ⟨hs, he⟩ h => (step_of_emit hs.inv he hs.not_reset h).imp
      (fun ⟨he', hleft⟩ => ⟨⟨hs.step h, he'⟩, hleft⟩) (fun ⟨h0, _⟩ => ⟨h0, trivial⟩)) ⟨hs, he⟩
  obtain ⟨t, ht, hrun, he'⟩ := hbefore k hk
  exact ⟨t, ht, hrun.inv.busy.2 (by simp [he'])⟩

/-- From a step that starts a frame of FG's, `BUSY` is 1 for the frame's duration. -/
theorem run_busy_of_start {s u : State} {k : FrameKind} (hs : WithoutReset u.params s) (he : u.fgStage = .emit)
    (hstep : step s = .next (tick (startFrame .fg k u))) {n : Nat} (h1 : 1 ≤ n)
    (hn : n ≤ wholeDuration u.params u.frame (firstPhase k)) : ∃ t, run n s = .next t ∧ t.busy = true := by
  obtain ⟨n, rfl⟩ := Nat.exists_eq_add_of_le' h1
  have hp : u.params.Valid := hs.params ▸ hs.inv.params
  have hne : (startFrame .fg k u).seqPhase ≠ .idle := by cases k <;> simp [firstPhase]
  have hleft := frameTicksLeft_tick hne (ivlCnt_ne_zero (startFrame_interval_runs hp .fg k) hne)
  rw [frameTicksLeft_startFrame hp] at hleft
  rw [run_succ hstep]
  exact run_busy_of_emit (hs.step hstep) (by simpa using he) (by omega)

/-- Settles O52: the join ends at the issue, the three intervals follow, and the last one's end completes. -/
theorem repeatFrameCommandRuns : Obligations.RepeatFrameCommandRuns := by
  rintro s hs ⟨hb, hr, hi⟩ ⟨harg, hin⟩
  have hrun : WithoutReset s.params s := ⟨hs, by simp [NoReset, hin], rfl⟩
  have hstep : step s = .next (tick (startFrame .fg .repeatFrame (leavingJoin .sendRepeatFrame s))) :=
    step_of_joining hs.params ⟨hb, hr, hi⟩ ⟨harg, hin⟩ rfl
  have halone : EmitterAlone (leavingJoin .sendRepeatFrame s) := ⟨rfl, nofun, by simp [leavingJoin, inJoin, hr]⟩
  have hnot : ¬(opSendRepeatFrame = opSend ∧ false = true) := by decide
  have hframe := halone.run_repeatFrame hs.params hstep
  have hend := halone.step_foregroundEnd hr hnot (ph := .rptTrailMark) (i := 0) (n := s.params.repeatDuration)
    (tr := repeatEdges (onValue s) s.now s.params) rfl rfl
  refine ⟨fun k h1 hk => run_busy_of_start (u := leavingJoin .sendRepeatFrame s) hrun rfl hstep h1 hk, ?_⟩
  rw [intervalsTrace_repeatIntervals]
  exact (run_add hframe 1).trans (run_succ hend 0)

end Sys2Proof.Safety

namespace Sys2Proof.Machine

/-! ## The bytes of an address (R10, R131)

An address is told by its low byte `a[7:0]` and its high byte `a[15:8]`. -/

theorem toNat_not8 (b : Byte) : (not8 b).toNat = 255 - b.toNat := BitVec.toNat_not

@[simp] theorem not8_not8 (b : Byte) : not8 (not8 b) = b := BitVec.not_not

/-- One byte is the complement of another exactly when the two add up to 255. -/
theorem eq_not8_iff (high low : Byte) : high = not8 low ↔ high.toNat = 255 - low.toNat := by
  rw [← toNat_not8, BitVec.toNat_inj]

theorem not8_eq_zero_iff (b : Byte) : not8 b = 0 ↔ b = 0xFF := by
  simp only [← BitVec.toNat_inj, toNat_not8, BitVec.ofNat_eq_ofNat, BitVec.toNat_ofNat]
  omega

theorem toNat_lowByte (a : Half) : (a.extractLsb' 0 8).toNat = a.toNat % 256 := by
  simp [BitVec.extractLsb'_toNat]

theorem toNat_highByte (a : Half) : (a.extractLsb' 8 8).toNat = a.toNat / 256 := by
  have hlt : a.toNat < 2 ^ 16 := a.isLt
  rw [BitVec.extractLsb'_toNat, Nat.shiftRight_eq_div_pow]
  omega

/-- An address fits a byte exactly when its high byte is 0. -/
theorem highByte_eq_zero_iff (a : Half) : a.extractLsb' 8 8 = 0 ↔ a.toNat ≤ 0xFF :=
  (extractLsb'_top_eq_zero_iff (k := 8) (n := 8) rfl a).trans Nat.lt_succ_iff

theorem toNat_zext16 (b : Byte) : (zext16 b).toNat = b.toNat := BitVec.toNat_setWidth_of_le (by decide)

@[simp] theorem lowByte_zext16 (b : Byte) : (zext16 b).extractLsb' 0 8 = b := by
  rw [← BitVec.toNat_inj, toNat_lowByte, toNat_zext16]
  exact Nat.mod_eq_of_lt b.isLt

@[simp] theorem highByte_zext16 (b : Byte) : (zext16 b).extractLsb' 8 8 = 0 := by
  rw [highByte_eq_zero_iff, toNat_zext16]
  exact Nat.le_of_lt_succ b.isLt

/-- An address whose high byte is 0 is its low byte. -/
theorem zext16_lowByte {a : Half} (h : a.extractLsb' 8 8 = 0) : zext16 (a.extractLsb' 0 8) = a := by
  rw [highByte_eq_zero_iff] at h
  rw [← BitVec.toNat_inj, toNat_zext16, toNat_lowByte]
  omega

/-- The low byte on its own is what the mask of R138 leaves. -/
theorem zext16_lowByte_eq_and (a : Half) : zext16 (a.extractLsb' 0 8) = a &&& 0x00FF := by
  rw [← BitVec.toNat_inj, toNat_zext16, toNat_lowByte, BitVec.toNat_and]
  exact (Nat.and_two_pow_sub_one_eq_mod a.toNat 8).symm

/-! ## Decomposition and resolution (R131 to R133) -/

@[simp] theorem decomp_fst (a : Half) : (decomp a).1 = a.extractLsb' 0 8 := rfl

theorem decomp_snd (a : Half) : (decomp a).2 =
    if a.extractLsb' 8 8 = 0 then not8 (a.extractLsb' 0 8) else a.extractLsb' 8 8 := rfl

theorem resolve_not8 (low : Byte) : resolve low (not8 low) = zext16 low := if_pos rfl

theorem resolve_of_ne {low high : Byte} (h : high ≠ not8 low) : resolve low high = high ++ low := if_neg h

theorem toNat_resolve (low high : Byte) : (resolve low high).toNat =
    if high.toNat = 255 - low.toNat then low.toNat else high.toNat * 256 + low.toNat := by
  simp only [← eq_not8_iff]
  split_ifs with h
  · rw [h, resolve_not8, toNat_zext16]
  · rw [resolve_of_ne h]
    exact toNat_append_eq_add high low

@[simp] theorem lowByte_resolve (low high : Byte) : (resolve low high).extractLsb' 0 8 = low := by
  have hlow : low.toNat < 2 ^ 8 := low.isLt
  rw [← BitVec.toNat_inj, toNat_lowByte, toNat_resolve]
  split_ifs <;> omega

/-- Resolution drops a high byte that only marks the 8-bit form. -/
theorem highByte_resolve (low high : Byte) :
    (resolve low high).extractLsb' 8 8 = if high = not8 low then 0 else high := by
  split_ifs with h
  · rw [h, resolve_not8, highByte_zext16]
  · have hlow : low.toNat < 2 ^ 8 := low.isLt
    rw [← BitVec.toNat_inj, toNat_highByte, toNat_resolve, if_neg (mt (eq_not8_iff high low).2 h)]
    omega

/-- A zero high byte leaves the low byte, whether it marks the 8-bit form or not. -/
theorem resolve_zero (low : Byte) : resolve low 0 = zext16 low := by
  by_cases h : 0 = not8 low
  · rw [h, resolve_not8]
  · rw [resolve_of_ne h, ← BitVec.toNat_inj, toNat_zext16]
    exact (toNat_append_eq_add 0 low).trans (by simp)

/-- The two bytes of an address resolve to it, but where the high one reads as the mark of the 8-bit form. -/
theorem resolve_bytes {a : Half} (h : a.toNat ≤ 0xFF ∨ not8 (a.extractLsb' 0 8) ≠ a.extractLsb' 8 8) :
    resolve (a.extractLsb' 0 8) (a.extractLsb' 8 8) = a := by
  rcases h with h | h
  · rw [← highByte_eq_zero_iff] at h
    rw [h, resolve_zero, zext16_lowByte h]
  · rw [resolve_of_ne h.symm, ← BitVec.toNat_inj]
    refine (toNat_append_eq_add (a.extractLsb' 8 8) (a.extractLsb' 0 8)).trans ?_
    rw [toNat_lowByte, toNat_highByte]
    omega

/-- Resolution after decomposition is resolution of the address's own bytes: a high byte changed was 0, and both 0 and
the mark in its place resolve to the low byte. -/
theorem resolve_decomp (a : Half) :
    resolve (decomp a).1 (decomp a).2 = resolve (a.extractLsb' 0 8) (a.extractLsb' 8 8) := by
  rw [decomp_fst, decomp_snd]
  split_ifs with h
  · rw [h, resolve_not8, resolve_zero]
  · rfl

/-- Decomposition after resolution replaces a zero high byte by the mark of the 8-bit form and nothing else. -/
theorem decomp_resolve (low high : Byte) :
    decomp (resolve low high) = (low, if high = 0 then not8 low else high) := by
  refine Prod.ext (by simp) ?_
  rw [decomp_snd, lowByte_resolve, highByte_resolve]
  by_cases h : high = not8 low <;> simp [h]

/-- Settles O7: the two bytes as quotient and remainder, and the examples evaluated. -/
theorem addressDecomposition : Obligations.AddressDecomposition := by
  refine ⟨fun a => ⟨toNat_lowByte a, ?_⟩, fun a h => ?_, by decide⟩
  · rw [decomp_snd, ← toNat_highByte, ← toNat_lowByte, ← toNat_not8]
    have hzero : a.extractLsb' 8 8 = 0 ↔ (a.extractLsb' 8 8).toNat = 0 := BitVec.toNat_inj.symm
    simp only [hzero, apply_ite BitVec.toNat]
  · rw [decomp_snd] at h
    split_ifs at h with h0
    · exact (not8_eq_zero_iff _).1 h
    · exact absurd h h0

/-- Settles O8: resolution by arithmetic, and the examples evaluated. -/
theorem addressResolution : Obligations.AddressResolution :=
  ⟨toNat_resolve, by decide⟩

/-- Settles O9: each composite of the two functions is known in closed form, and an address is resolved to exactly where
its own bytes resolve to it. -/
theorem addressRoundTripAndCollapse : Obligations.AddressRoundTripAndCollapse := by
  refine ⟨fun a h => (resolve_decomp a).trans (resolve_bytes h), fun a _ h => ?_, fun low high h => ?_,
    fun low _ => decomp_resolve low 0, fun low _ => ⟨resolve_not8 low, resolve_zero low⟩, fun a => ⟨?_, fun h => ?_⟩⟩
  · rw [resolve_decomp, h, resolve_not8]
  · rw [decomp_resolve]
    split_ifs with h0
    · have hlow : low = 0xFF := by_contra fun hne => h ⟨h0, hne⟩
      rw [h0, (not8_eq_zero_iff low).2 hlow]
    · rfl
  · rintro ⟨low, high, rfl⟩ ⟨hlarge, hmark⟩
    rw [lowByte_resolve, highByte_resolve] at hmark
    split_ifs at hmark with h
    · rw [h, resolve_not8, toNat_zext16] at hlarge
      exact absurd low.isLt (Nat.not_lt.2 hlarge)
    · exact h hmark
  · refine ⟨_, _, resolve_bytes ?_⟩
    by_cases hmark : a.extractLsb' 8 8 = not8 (a.extractLsb' 0 8)
    · exact .inl (Nat.lt_succ_iff.1 (Nat.not_le.1 fun hlarge => h ⟨hlarge, hmark⟩))
    · exact .inr (Ne.symm hmark)

/-! ## Decoding and encoding of raw codes (R134, R137) -/

section
variable (low high command inv : Byte)

@[simp] theorem byte0_rawCode : byte0 (rawCode low high command inv) = low := byte0_packB ..

@[simp] theorem byte1_rawCode : byte1 (rawCode low high command inv) = high := byte1_packB ..

@[simp] theorem byte2_rawCode : byte2 (rawCode low high command inv) = command := byte2_packB ..

@[simp] theorem byte3_rawCode : byte3 (rawCode low high command inv) = inv := byte3_packB ..

end

theorem decodeRaw_valid_iff (code : Word) : (decodeRaw code).valid = true ↔ byte2 code = not8 (byte3 code) :=
  beq_iff_eq

/-- The checksum bit by bit: each bit of the command differs from the one of the inverted command. -/
theorem decodeRaw_valid_iff_bits (code : Word) :
    (decodeRaw code).valid = true ↔ ∀ i < 8, code.getLsbD (16 + i) = !code.getLsbD (24 + i) := by
  have hbits : ∀ i < 8, (byte2 code).getLsbD i = code.getLsbD (16 + i) ∧
      (not8 (byte3 code)).getLsbD i = !code.getLsbD (24 + i) := fun i hi => by
    simp [byte2, byte3, not8, hi]
  rw [decodeRaw_valid_iff]
  constructor
  · intro h i hi
    obtain ⟨h2, h3⟩ := hbits i hi
    rw [← h2, ← h3, h]
  · intro h
    refine BitVec.eq_of_getLsbD_eq fun i hi => ?_
    obtain ⟨h2, h3⟩ := hbits i hi
    rw [h2, h3, h i hi]

/-- Decoding what was encoded resolves the bytes of the address and is always valid. -/
theorem decodeRaw_encodeRaw (a : Half) (c : Byte) :
    decodeRaw (encodeRaw a c) = ⟨true, resolve (a.extractLsb' 0 8) (a.extractLsb' 8 8), c⟩ := by
  rw [decodeRaw, encodeRaw, byte0_rawCode, byte1_rawCode, byte2_rawCode, byte3_rawCode, resolve_decomp, not8_not8,
    beq_self_eq_true]

/-- Encoding what was decoded from a valid code changes only a zero high byte, to the mark of the 8-bit form. -/
theorem encodeRaw_decodeRaw {code : Word} (h : (decodeRaw code).valid = true) :
    encodeRaw (decodeRaw code).address (decodeRaw code).command =
      rawCode (byte0 code) (if byte1 code = 0 then not8 (byte0 code) else byte1 code) (byte2 code) (byte3 code) := by
  have hinv : not8 (byte2 code) = byte3 code := by rw [(decodeRaw_valid_iff code).1 h, not8_not8]
  rw [encodeRaw, decodeRaw, decomp_resolve, hinv]

theorem getLsbD_flip (code : Word) {b : Nat} (hb : b < 32) (i : Nat) :
    (code ^^^ BitVec.twoPow 32 b).getLsbD i = (code.getLsbD i ^^ decide (b = i)) := by
  simp [BitVec.getLsbD_xor, BitVec.getLsbD_twoPow, hb]

/-- The checksum catches one flipped bit of the two bytes it covers: one side of one bit's comparison changes. -/
theorem not_valid_of_flip {code : Word} (h : (decodeRaw code).valid = true) {b : Nat} (h16 : 16 ≤ b) (hb : b < 32) :
    (decodeRaw (code ^^^ BitVec.twoPow 32 b)).valid = false := by
  obtain ⟨i, hi, hpos⟩ : ∃ i < 8, b = 16 + i ∨ b = 24 + i := ⟨(b - 16) % 8, by omega, by omega⟩
  rw [decodeRaw_valid_iff_bits] at h
  refine Bool.eq_false_iff.2 fun hvalid => ?_
  have hflipped := (decodeRaw_valid_iff_bits _).1 hvalid i hi
  rw [getLsbD_flip code hb, getLsbD_flip code hb, h i hi] at hflipped
  rcases hpos with rfl | rfl <;> simp at hflipped

/-- The checksum misses the same bit flipped in both bytes: both sides of its comparison change. -/
theorem valid_of_flip_both {code : Word} (h : (decodeRaw code).valid = true) {b : Nat} (h16 : 16 ≤ b) (hb : b < 24) :
    (decodeRaw (code ^^^ BitVec.twoPow 32 b ^^^ BitVec.twoPow 32 (b + 8))).valid = true := by
  rw [decodeRaw_valid_iff_bits] at h ⊢
  intro i hi
  have hcommand : b + 8 ≠ 16 + i := by omega
  have hinverted : b ≠ 24 + i := by omega
  have hsame : b = 16 + i ↔ b + 8 = 24 + i := by omega
  simp only [getLsbD_flip _ (show b < 32 by omega), getLsbD_flip _ (show b + 8 < 32 by omega), h i hi, hcommand,
    hinverted, hsame, decide_false, Bool.xor_false, Bool.not_xor]

/-- Settles O10: 1 to 3 and 7 by what decoding makes of an encoded pair, 6 by what encoding makes of a decoded one, 4 and
5 by the checksum. -/
theorem codecProperties : Obligations.CodecProperties := by
  refine ⟨fun a c h => ?_, fun a c _ h => ?_, fun a c _ h => ?_, fun code h => ?_, fun code b h => not_valid_of_flip h,
    fun code b h => valid_of_flip_both h, fun code h hbytes => ?_, fun code h h1 _ => ?_, fun a c => ?_⟩
  · rw [decodeRaw_encodeRaw, resolve_bytes (.inl h)]
  · rw [decodeRaw_encodeRaw, resolve_bytes (.inr h.symm)]
  · rw [decodeRaw_encodeRaw, h, resolve_not8, zext16_lowByte_eq_and]
  · exact Bool.eq_false_iff.2 fun hvalid => h ((decodeRaw_valid_iff code).1 hvalid)
  · have hhigh : (if byte1 code = 0 then not8 (byte0 code) else byte1 code) = byte1 code := by
      split_ifs with h1
      · rw [h1, not8_eq_zero_iff]
        exact by_contra fun hne => hbytes ⟨h1, hne⟩
      · rfl
    rw [encodeRaw_decodeRaw h, hhigh]
    exact packB_bytes code
  · rw [encodeRaw_decodeRaw h, if_pos h1]
  · rw [decodeRaw_encodeRaw]

/-- Settles O11, by evaluation. -/
theorem concreteVectors : Obligations.ConcreteVectors := by
  unfold Obligations.ConcreteVectors
  decide

/-! ## The 1 bits of a raw code (R10, R137) -/

/-- The model's count of 1 bits is the library's. -/
theorem popcount_eq_cpop (w : Word) : popcount w = w.cpop.toNat := by
  have hcount : ∀ n, (List.range n).countP (fun i => w.getLsbD i) = w.cpopNatRec n 0 := fun n => by
    induction n with
    | zero => rfl
    | succ n ih =>
      rw [List.range_succ, List.countP_append, ih, List.countP_singleton, BitVec.cpopNatRec_succ, BitVec.cpopNatRec_add,
        Bool.toNat]
      cases w.getLsbD n <;> rfl
  rw [BitVec.toNat_cpop]
  exact hcount 32

theorem popcount_setWidth (b : Byte) : popcount (b.setWidth 32) = b.cpop.toNat := by
  rw [popcount_eq_cpop, BitVec.toNat_cpop_setWidth_eq_of_le (by decide)]

theorem popcount_rawCode (low high command inv : Byte) : popcount (rawCode low high command inv) =
    inv.cpop.toNat + command.cpop.toNat + high.cpop.toNat + low.cpop.toNat := by
  rw [popcount_eq_cpop]
  exact BitVec.toNat_cpop_append.trans (by rw [BitVec.toNat_cpop_append, BitVec.toNat_cpop_append])

/-- A byte and its complement have eight 1 bits between them. -/
theorem cpop_add_cpop_not8 (b : Byte) : b.cpop.toNat + (not8 b).cpop.toNat = 8 := by
  have hle := BitVec.toNat_cpop_le b
  rw [not8, BitVec.toNat_cpop_not]
  omega

/-- A word other than 0 has a 1 bit. -/
theorem cpop_pos {w : Nat} {b : BitVec w} (h : b ≠ 0) : 0 < b.cpop.toNat := by
  induction b with
  | nil => exact absurd rfl h
  | cons bit b ih =>
    rw [BitVec.toNat_cpop_cons]
    cases bit with
    | true => exact Nat.add_pos_left Nat.one_pos _
    | false => exact Nat.add_pos_right _ (ih fun hb => h (by simp [hb]))

/-- The two bytes of the command give eight 1 bits, so the address decides (R137). -/
theorem popcount_encodeRaw (a : Half) (c : Byte) :
    popcount (encodeRaw a c) = 8 + (decomp a).1.cpop.toNat + (decomp a).2.cpop.toNat := by
  have hcommand := cpop_add_cpop_not8 c
  rw [encodeRaw, popcount_rawCode]
  omega

/-- Settles O12: an 8-bit address is sent as a byte and its complement, an extended one as two bytes of which the high
one is not 0. -/
theorem sendFrameOneBits : Obligations.SendFrameOneBits := by
  intro a c
  rw [popcount_setWidth, popcount_setWidth, popcount_encodeRaw]
  refine ⟨rfl, fun h => ?_, fun h => ?_⟩
  · have haddress := cpop_add_cpop_not8 (a.extractLsb' 0 8)
    rw [decomp_fst, decomp_snd, if_pos ((highByte_eq_zero_iff a).2 h)]
    omega
  · have hhigh : a.extractLsb' 8 8 ≠ 0 := by rw [Ne, highByte_eq_zero_iff]; omega
    have hpos := cpop_pos hhigh
    have hle := BitVec.toNat_cpop_le (a.extractLsb' 8 8)
    have hle' := BitVec.toNat_cpop_le (a.extractLsb' 0 8)
    rw [decomp_fst, decomp_snd, if_neg hhigh]
    omega

/-! ## The codec commands at their issue (R130, R135, R136) -/

theorem exec_decodeRaw (code : Word) (s : State) : exec (.decodeRaw code) s =
    .next { latch opDecodeRaw code false s with rDecode := decodeResult (decodeRaw code) } := rfl

theorem exec_encodeRaw (a : Half) (c : Byte) (s : State) : exec (.encodeRaw a c) s =
    .next { latch opEncodeRaw (packAC a c) false s with rCode := encodeRaw a c } := rfl

/-- Settles O17: the issue and the decoding are the model's own, and the results of the corner cases are evaluated. -/
theorem decodeRawCompletes : Obligations.DecodeRawCompletes := by
  refine ⟨exec_decodeRaw, decode_decodeRaw, fun c hc s => ⟨_, exec_decodeRaw c.1 s, ?_⟩⟩
  have hread : (decodeResult (decodeRaw c.1)).setWidth 32 = c.2 := by fin_cases hc <;> decide
  exact hread

/-- Settles O18: the issue and the decoding are the model's own, and the corner cases are evaluated. -/
theorem encodeRawCompletes : Obligations.EncodeRawCompletes :=
  ⟨exec_encodeRaw, decode_encodeRaw, by decide⟩

end Sys2Proof.Machine

namespace Sys2Proof.Machine

open Sys2Proof.Safety (run run_succ run_add)

/-! ## The pairs of a full frame (R100, R157) -/

theorem intervalsTrace_append (on t : Nat) (l l' : List Interval) :
    intervalsTrace on t (l ++ l') = intervalsTrace on t l ++ intervalsTrace on (t + totalDuration l) l' := by
  induction l generalizing t with
  | nil => rfl
  | cons iv l ih => simp only [List.cons_append, intervalsTrace, totalDuration, ih, List.append_assoc, Nat.add_assoc]

/-- The intervals of a full frame before its data bits. -/
def leadIntervals (p : Params) : List Interval := [⟨.mark, p.leadMark⟩, ⟨.space, p.leadSpace⟩]

/-- The pairs a full frame started at `t` has written by the time its last interval runs (R100, R157). -/
def fullEdges (on t : Nat) (p : Params) (F : Word) : List (Nat × Nat) :=
  intervalsTrace on t (leadIntervals p) ++
    (intervalsTrace on (t + (p.leadMark + p.leadSpace)) ((List.range 32).flatMap (bitIntervals p F)) ++
      [(t + (p.leadMark + p.leadSpace + bitsDuration p F 32), on)])

/-- A full frame writes one pair more, where its last interval ends. -/
theorem intervalsTrace_frameIntervals (on t : Nat) (p : Params) (F : Word) :
    intervalsTrace on t (frameIntervals p F) = fullEdges on t p F ++ [(t + frameDuration p F, 0)] := by
  have hlead : totalDuration (leadIntervals p) = p.leadMark + p.leadSpace := rfl
  rw [frameIntervals, ← leadIntervals, intervalsTrace_append, intervalsTrace_append, totalDuration_append,
    totalDuration_bitIntervals, hlead, frameDuration_eq, fullEdges]
  simp only [intervalsTrace, List.append_assoc, Nat.add_assoc, List.append_nil, List.cons_append, List.nil_append]

/-! ## How many pairs a list of intervals writes (R157) -/

/-- Each mark writes two pairs and a space none. -/
theorem length_intervalsTrace (on t : Nat) (l : List Interval) :
    (intervalsTrace on t l).length = 2 * l.countP (fun iv => iv.kind = .mark) := by
  induction l generalizing t with
  | nil => rfl
  | cons iv l ih =>
    rw [intervalsTrace, List.length_append, ih, List.countP_cons]
    cases iv.kind with
    | mark => simp; omega
    | space => simp

/-- A data bit has one mark. -/
theorem countP_mark_bitIntervals (p : Params) (F : Word) (n : Nat) :
    ((List.range n).flatMap (bitIntervals p F)).countP (fun iv => iv.kind = .mark) = n := by
  induction n with
  | zero => rfl
  | succ n ih => simp [List.range_succ, ih, bitIntervals]

/-- Settles O16: a full frame has 34 marks, the last of which ends with the frame; a repeat frame is its edges and its
end. -/
theorem frameTraceShape : Obligations.FrameTraceShape := by
  intro p F on t
  refine ⟨?_, ?_, ?_⟩
  · rw [length_intervalsTrace, frameIntervals, List.countP_append, List.countP_append, countP_mark_bitIntervals]
    rfl
  · rw [intervalsTrace_frameIntervals, List.getLast?_concat]
  · rw [intervalsTrace_repeatIntervals, repeatEdges, ← Nat.add_assoc]
    rfl

/-! ## A full frame from interval to interval (R101, R153) -/

/-- From the end of the space before a data bit to the end of the bit's own space. -/
theorem EmitterAlone.run_bit {u : State} (h : EmitterAlone u) (hp : u.params.Valid) {o : Owner} {ph : Phase}
    {i j : BitVec 5} {n : Nat} {tr : List (Nat × Nat)} (hspace : isMark ph = false)
    (hn : nextPosition ph i = some (.bitMark, j)) :
    run (u.params.bitMark + dur u.params .bitSpace j u.frame) (atIntervalEnd o ph i n tr u) =
      .next (atIntervalEnd o .bitSpace j (n + (u.params.bitMark + dur u.params .bitSpace j u.frame))
        (tr ++ intervalsTrace (onValue u) (u.now + n) (bitIntervals u.params u.frame j.toNat)) u) := by
  have hne : ph ≠ .idle := fun hi => by simp [hi, nextPosition] at hn
  have hmark := h.run_nextInterval hp (o := o) (n := n) (tr := tr) hne hn
  have hbit := h.run_nextInterval hp (o := o) (ph := .bitMark) (i := j) (n := n + u.params.bitMark)
    (tr := tr ++ [(u.now + n, onValue u)]) nofun rfl
  simp only [valueIfMark, hspace] at hmark
  refine (run_add hmark _).trans (hbit.trans ?_)
  simp [valueIfMark, isMark, intervalsTrace, bitIntervals, Nat.add_assoc]

/-- From the end of the lead space to the end of data bit `n`. -/
theorem EmitterAlone.run_bits {u : State} (h : EmitterAlone u) (hp : u.params.Valid) {o : Owner} {m : Nat}
    {tr : List (Nat × Nat)} {n : Nat} (hn : n < 32) :
    run (bitsDuration u.params u.frame (n + 1)) (atIntervalEnd o .leadSpace 0 m tr u) =
      .next (atIntervalEnd o .bitSpace (BitVec.ofNat 5 n) (m + bitsDuration u.params u.frame (n + 1))
        (tr ++ intervalsTrace (onValue u) (u.now + m)
          ((List.range (n + 1)).flatMap (bitIntervals u.params u.frame))) u) := by
  induction n with
  | zero =>
    have hbit := h.run_bit hp (o := o) (ph := .leadSpace) (i := 0) (j := 0) (n := m) (tr := tr) rfl rfl
    simpa [bitsDuration, dur] using hbit
  | succ n ih =>
    have hcur : (BitVec.ofNat 5 n).toNat = n := Nat.mod_eq_of_lt (by omega)
    have hnext : (BitVec.ofNat 5 (n + 1)).toNat = n + 1 := Nat.mod_eq_of_lt hn
    have hpos : nextPosition .bitSpace (BitVec.ofNat 5 n) = some (.bitMark, BitVec.ofNat 5 (n + 1)) := by
      rw [nextPosition, hcur, if_pos (by omega), BitVec.ofNat_add]
      rfl
    have hbit := h.run_bit hp (o := o) (n := m + bitsDuration u.params u.frame (n + 1)) (tr := tr ++
      intervalsTrace (onValue u) (u.now + m) ((List.range (n + 1)).flatMap (bitIntervals u.params u.frame))) rfl hpos
    rw [hnext, List.append_assoc, ← Nat.add_assoc u.now] at hbit
    have hedges := intervalsTrace_append (onValue u) (u.now + m)
      ((List.range (n + 1)).flatMap (bitIntervals u.params u.frame)) (bitIntervals u.params u.frame (n + 1))
    rw [totalDuration_bitIntervals] at hedges
    have hdur : bitsDuration u.params u.frame (n + 1 + 1) = bitsDuration u.params u.frame (n + 1) +
        (u.params.bitMark + dur u.params .bitSpace (BitVec.ofNat 5 (n + 1)) u.frame) := by
      rw [bitsDuration, dur, hnext]
    rw [List.range_succ (n := n + 1), List.flatMap_append, List.flatMap_singleton, hedges, hdur, ← Nat.add_assoc m]
    exact (run_add (ih (by omega)) _).trans hbit

/-- From a step that starts a full frame to the end of its last interval (R100, R153). -/
theorem EmitterAlone.run_fullFrame {s u : State} {o : Owner} (h : EmitterAlone u) (hp : u.params.Valid)
    (hstep : step s = .next (tick (startFrame o .full u))) :
    run (frameDuration u.params u.frame) s = .next (atIntervalEnd o .trailMark 31 (frameDuration u.params u.frame)
      (fullEdges (onValue u) u.now u.params u.frame) u) := by
  have hlead := h.run_firstInterval hp hstep
  have hspace := h.run_nextInterval hp (o := o) (ph := .leadMark) (i := 0) (n := u.params.leadMark)
    (tr := [(u.now, onValue u)]) nofun rfl
  have hbits := h.run_bits hp (o := o) (m := u.params.leadMark + u.params.leadSpace)
    (tr := intervalsTrace (onValue u) u.now (leadIntervals u.params)) (n := 31) (by decide)
  have htrail := h.run_nextInterval hp (o := o) (ph := .bitSpace) (i := 31)
    (n := u.params.leadMark + u.params.leadSpace + bitsDuration u.params u.frame 32)
    (tr := intervalsTrace (onValue u) u.now (leadIntervals u.params) ++
      intervalsTrace (onValue u) (u.now + (u.params.leadMark + u.params.leadSpace))
        ((List.range 32).flatMap (bitIntervals u.params u.frame))) nofun rfl
  rw [frameDuration_eq, fullEdges, ← List.append_assoc]
  exact (run_add ((run_add ((run_add hlead _).trans hspace) _).trans hbits) _).trans htrail

end Sys2Proof.Machine

namespace Sys2Proof.Safety

open Sys2Proof.Machine

/-! ## The commands that send a full frame (R156, R180, R185) -/

theorem joining_of_fullFrameOf {i : Instr} {F : Word} (h : fullFrameOf i = some F) :
    joining i.opcode i.operand = true := by
  cases i with
  | sendBytes low high cmd invCmd => rfl
  | send address command autoRepeat => rfl
  | sendRaw code =>
    by_cases hv : (decodeRaw code).valid = true
    · exact (Bool.or_false _).trans hv
    · simp [fullFrameOf, hv] at h
  | _ => cases h

/-- `s` with FG about to start the full frame `F` of the command `i`. -/
def startingFrame (i : Instr) (F : Word) (s : State) : State := { leavingJoin i s with frame := F }

/-- The end of the join starts the full frame the command transmits (R94, R212). -/
theorem fgJoinDone_inJoin {i : Instr} {F : Word} (h : fullFrameOf i = some F) (s : State) :
    fgJoinDone (inJoin i s) = startFrame .fg .full (startingFrame i F s) := by
  cases i with
  | sendBytes low high cmd invCmd =>
    cases h
    rfl
  | send address command autoRepeat =>
    have hframe : sendFrame (packACR address command autoRepeat) = F := by
      simpa [sendFrame, fullFrameOf] using h
    rw [← hframe]
    rfl
  | sendRaw code =>
    by_cases hv : (decodeRaw code).valid = true
    · simp only [fullFrameOf, hv, if_true, Option.some.injEq] at h
      rw [← h]
      rfl
    · simp [fullFrameOf, hv] at h
  | _ => cases h

/-- Where no session is on, a command that sends a full frame starts it in the step of its issue (R211, R212). -/
theorem step_of_fullFrame {i : Instr} {F : Word} {s : State} (hp : s.params.Valid) (hs : Quiescent s)
    (h : AboutToIssue i s) (hF : fullFrameOf i = some F) :
    step s = .next (tick (startFrame .fg .full (startingFrame i F s))) :=
  (step_of_joining hp hs h (joining_of_fullFrameOf hF)).trans (by rw [fgJoinDone_inJoin hF])

/-- While ticks are left of FG's frame, FG is emitting it. -/
theorem run_emit {p : Params} {s : State} (hs : WithoutReset p s) (he : s.fgStage = .emit) {k : Nat}
    (hk : k ≤ frameTicksLeft s) : ∃ t, run k s = .next t ∧ Inv t ∧ t.fgStage = .emit := by
  obtain ⟨hbefore, -⟩ := run_countdown (P := fun s => WithoutReset p s ∧ s.fgStage = .emit) (Q := fun _ => True)
    (m := frameTicksLeft) (fun _ hp => hp.1.step_next)
    (fun s t ⟨hs, he⟩ h => (step_of_emit hs.inv he hs.not_reset h).imp
      (fun ⟨he', hleft⟩ => ⟨⟨hs.step h, he'⟩, hleft⟩) (fun ⟨h0, _⟩ => ⟨h0, trivial⟩)) ⟨hs, he⟩
  obtain ⟨t, ht, hrun, he'⟩ := hbefore k hk
  exact ⟨t, ht, hrun.inv, he'⟩

/-- From a step that starts a frame of FG's, FG is emitting for the frame's duration. -/
theorem run_emit_of_start {s u : State} {k : FrameKind} (hs : WithoutReset u.params s) (he : u.fgStage = .emit)
    (hstep : step s = .next (tick (startFrame .fg k u))) {n : Nat} (h1 : 1 ≤ n)
    (hn : n ≤ wholeDuration u.params u.frame (firstPhase k)) :
    ∃ t, run n s = .next t ∧ Inv t ∧ t.fgStage = .emit := by
  obtain ⟨n, rfl⟩ := Nat.exists_eq_add_of_le' h1
  have hp : u.params.Valid := hs.params ▸ hs.inv.params
  have hne : (startFrame .fg k u).seqPhase ≠ .idle := by cases k <;> simp [firstPhase]
  have hleft := frameTicksLeft_tick hne (ivlCnt_ne_zero (startFrame_interval_runs hp .fg k) hne)
  rw [frameTicksLeft_startFrame hp] at hleft
  rw [run_succ hstep]
  exact run_emit (hs.step hstep) (by simpa using he) (by omega)

/-- While FG is emitting, `BUSY` is 1 and no session is on. -/
theorem Inv.busy_of_emit {s : State} (h : Inv s) (he : s.fgStage = .emit) : s.busy = true ∧ s.rptState = .idle := by
  obtain ⟨hne, ho⟩ := h.settling.writer.frame_of_emit he
  obtain ⟨-, hidle⟩ := h.settling.writer.foreground hne ho
  exact ⟨h.busy.2 (by simp [he]), hidle⟩

/-- Settles O50: the join ends at the issue, the 67 intervals follow, and the last one's end completes. -/
theorem fullFrameCommandRuns : Obligations.FullFrameCommandRuns := by
  intro i F s hF hauto hs hquiet hissue
  have hstep := step_of_fullFrame hs.params hquiet hissue hF
  obtain ⟨-, hr, -⟩ := hquiet
  obtain ⟨-, hin⟩ := hissue
  have hrun : WithoutReset s.params s := ⟨hs, by simp [NoReset, hin], rfl⟩
  have hlatched : startingFrame i F s = { startingFrame i F s with autoRpt := false } := by
    rw [startingFrame, leavingJoin, inJoin, hauto]
  rw [hlatched] at hstep
  refine ⟨fun k h1 hk => ?_, ?_⟩
  · obtain ⟨t, ht, hinv, he⟩ := run_emit_of_start (u := { startingFrame i F s with autoRpt := false })
      hrun rfl hstep h1 hk
    exact ⟨t, ht, hinv.busy_of_emit he⟩
  · have halone : EmitterAlone { startingFrame i F s with autoRpt := false } :=
      ⟨rfl, nofun, fun hstop => absurd (hr.symm.trans hstop) nofun⟩
    have hframe := halone.run_fullFrame hs.params hstep
    have hend := halone.step_foregroundEnd hr (fun ⟨_, hon⟩ => absurd hon nofun) (ph := .trailMark) (i := 31)
      (n := frameDuration s.params F) (tr := fullEdges (onValue s) s.now s.params F) rfl rfl
    rw [intervalsTrace_frameIntervals]
    exact (run_add hframe 1).trans (run_succ hend 0)

end Sys2Proof.Safety

namespace Sys2Proof.Machine

open Sys2Proof.Safety (timingView startsSession)

/-! ## What the duty and `TOP` decide (R150, R231)

The timing view of a state has `TOP`, the duty, the carrier and the values in TRACE at 0. There every write to the
carrier setter writes 0, so each operation inside an instant commutes with taking the view. -/

section
variable (s : State)

@[simp] theorem timingView_timingView : timingView (timingView s) = timingView s := by
  simp [timingView]

theorem onValue_timingView : onValue (timingView s) = 0 := by
  simp [onValue, timingView]

/-- Whatever a mark writes, the view shows a 0 at the time of the write. -/
theorem carrierIfMark_timingView (ph : Phase) (v : Nat) :
    carrierIfMark ph 0 (timingView s) = timingView (carrierIfMark ph v s) := by
  unfold carrierIfMark
  split
  · simp [carrierSet, timingView]
  · rfl

theorem enter_timingView (ph : Phase) (i : BitVec 5) : enter ph i (timingView s) = timingView (enter ph i s) := by
  rw [enter, onValue_timingView]
  exact carrierIfMark_timingView (loadInterval ph i s) ph (onValue s)

theorem startFrame_timingView (o : Owner) (k : FrameKind) :
    startFrame o k (timingView s) = timingView (startFrame o k s) :=
  enter_timingView { s with seqOwner := o, durAcc := 0 } (firstPhase k) 0

theorem fgComplete_timingView (d : Word) : fgComplete d (timingView s) = timingView (fgComplete d s) := by
  rcases fgComplete_eq d s with ⟨ha, he⟩ | ⟨ha, he⟩ <;>
    rcases fgComplete_eq d (timingView s) with ⟨ha', he'⟩ | ⟨ha', he'⟩
  · rw [he, he']; rfl
  · exact absurd ha ha'
  · exact absurd ha' ha
  · rw [he, he']; rfl

theorem frameEnd_timingView : frameEnd (timingView s) = timingView (frameEnd s) := by
  rcases frameEnd_cases s with ⟨ho, he⟩ | ⟨ho, he⟩
  · rw [he, ← fgComplete_timingView]
    simp [frameEnd, timingView, ho]
  · simp [frameEnd, timingView, ho, bgFrameDone]

theorem advance_timingView : advance (timingView s) = timingView (advance s) := by
  rcases hn : nextPosition s.seqPhase s.bitIdx with _ | ⟨ph, i⟩
  · simpa [advance, timingView, hn] using frameEnd_timingView s
  · simpa [advance, timingView, hn] using enter_timingView s ph i

theorem intervalEnd_timingView : intervalEnd (timingView s) = timingView (intervalEnd s) :=
  (congrArg advance (carrierIfMark_timingView s s.seqPhase 0)).trans (advance_timingView _)

theorem fgStart_timingView (k : FrameKind) : fgStart k (timingView s) = timingView (fgStart k s) :=
  startFrame_timingView { s with fgStage := .emit } .fg k

theorem fgJoinDone_timingView : fgJoinDone (timingView s) = timingView (fgJoinDone s) := by
  unfold fgJoinDone
  simp only [apply_ite timingView, ← fgStart_timingView]
  rfl

theorem zeroTime_timingView : zeroTime (timingView s) = (zeroTime s).map timingView := by
  unfold zeroTime
  simp only [apply_ite (Option.map timingView), Option.map_some, Option.map_none, intervalEnd_timingView,
    fgJoinDone_timingView, bgFire, startFrame_timingView]
  rfl

end

theorem settle_timingView (n : Nat) (s : State) : settle n (timingView s) = (settle n s).map timingView := by
  induction n generalizing s with
  | zero =>
    simp only [settle, zeroTime_timingView]
    cases zeroTime s <;> rfl
  | succ n ih =>
    simp only [settle, zeroTime_timingView]
    cases zeroTime s with
    | none => rfl
    | some s' => exact ih s'

/-- The timing view of an outcome. -/
def timingOutcome (o : Host.Outcome State Fault Refusal) : Host.Outcome State Fault Refusal :=
  andThen o fun s => .next (timingView s)

theorem timingOutcome_next (s : State) : timingOutcome (.next (timingView s)) = timingOutcome (.next s) :=
  congrArg Host.Outcome.next (timingView_timingView s)

theorem finishInstant_timingView (s : State) : finishInstant (timingView s) = timingOutcome (finishInstant s) := by
  simp only [finishInstant, settle_timingView]
  cases settle settleFuel s <;> rfl

/-- What commutes with the view goes on alike from outcomes of one view. -/
theorem timingOutcome_andThen {f : State → Host.Outcome State Fault Refusal}
    (hf : ∀ s, f (timingView s) = timingOutcome (f s)) (o : Host.Outcome State Fault Refusal) :
    timingOutcome (andThen o f) = andThen (timingOutcome o) f := by
  cases o with
  | next s => exact (hf s).symm
  | fault r => rfl
  | refused r => rfl

/-! ### The accesses -/

theorem beginJoin_timingView (s : State) : beginJoin (timingView s) = timingView (beginJoin s) := by
  rcases hr : s.rptState <;> simp [beginJoin, requestCancel, timingView, hr, cancelLatency, bgEmitting, Config.delta]

/-- The issue of a command goes by the view; the duty a `CONFIGURE` writes the view does not show. -/
theorem exec_timingView (i : Instr) (s : State) : timingOutcome (exec i (timingView s)) = timingOutcome (exec i s) := by
  rcases hj : joining i.opcode i.operand
  · cases i with
    | decodeRaw code =>
      exact timingOutcome_next { latch opDecodeRaw code false s with rDecode := decodeResult (decodeRaw code) }
    | encodeRaw address command =>
      exact timingOutcome_next
        { latch opEncodeRaw (packAC address command) false s with rCode := encodeRaw address command }
    | configure duty =>
      exact timingOutcome_next { latch opConfigure (packD duty) false s with duty := legalDuty duty }
    | sendRaw code =>
      have hv : ¬(decodeRaw code).valid = true := Bool.eq_false_iff.1 ((Bool.or_false _).symm.trans hj)
      simp only [exec, execSendRaw, if_neg hv]
      exact timingOutcome_next { latch opSendRaw code false s with rDuration := 0 }
    | _ => cases hj
  · rw [exec_of_joining hj, exec_of_joining hj]
    have hjoin := beginJoin_timingView (latch i.opcode i.operand (startsSession i) s)
    exact (congrArg (fun u => timingOutcome (.next u)) hjoin).trans (timingOutcome_next _)

theorem issue_timingView (op : Byte) (s : State) :
    timingOutcome (issue op (timingView s)) = timingOutcome (issue op s) := by
  have harg : (timingView s).cmdArgReg = s.cmdArgReg := rfl
  unfold issue
  rw [harg]
  cases decode (cmdWord op s.cmdArgReg) with
  | ok i => exact exec_timingView i s
  | error e => exact timingOutcome_next (issueIllegal op s.cmdArgReg s)

theorem hostWrite_timingView (idx : Nat) (v : Word) (s : State) :
    timingOutcome (hostWrite idx v (timingView s)) = timingOutcome (hostWrite idx v s) := by
  have hbusy : (timingView s).busy = s.busy := rfl
  rcases Nat.lt_or_ge idx 3 with h | h
  · interval_cases idx <;> simp only [hostWrite, hbusy]
    · split
      · exact timingOutcome_next (raise .overrun s)
      · exact timingOutcome_next { s with cmdArgReg := v }
    · split
      · exact timingOutcome_next (raise .overrun s)
      · exact issue_timingView (byte0 v) s
    · exact timingOutcome_next (clearSticky v s)
  · rw [hostWrite_read_only h, hostWrite_read_only h]
    exact timingOutcome_next s

theorem takeInput_timingView (s : State) :
    takeInput (timingView s) = ((takeInput s).1, timingView (takeInput s).2) := by
  have hin : (timingView s).inputs = s.inputs := rfl
  unfold takeInput
  rw [hin]
  split <;> rfl

/-- An instant goes by the view: the access and the rest of the instant each do. -/
theorem runInstant_timingView (e : Option InputEvent) (s : State) :
    timingOutcome (runInstant e (timingView s)) = timingOutcome (runInstant e s) := by
  have hfinish (u : State) : timingOutcome (finishInstant (timingView u)) = timingOutcome (finishInstant u) := by
    rw [finishInstant_timingView]
    cases finishInstant u with
    | next w => exact timingOutcome_next w
    | _ => rfl
  rcases e with _ | ⟨idx⟩ | ⟨idx, v⟩ | _
  · exact hfinish s
  · have hread : timingView (recordRead idx (timingView s)) = timingView (recordRead idx s) :=
      timingView_timingView s
    rw [runInstant, runInstant, ← hfinish, hread, hfinish]
  · rw [runInstant, runInstant, timingOutcome_andThen finishInstant_timingView, hostWrite_timingView,
      ← timingOutcome_andThen finishInstant_timingView]
  · exact timingOutcome_next (resetBlock s)

theorem step_timingView (s : State) : timingOutcome (step (timingView s)) = timingOutcome (step s) := by
  rw [step, step, instant, instant, takeInput_timingView]
  exact runInstant_timingView _ _

/-- Settles O43: every step goes by the timing view, so from one view the next states have one view. -/
theorem dutyDecidesNoTiming : Obligations.DutyDecidesNoTiming := by
  intro s t s' hview hs
  have hstep : timingOutcome (step t) = .next (timingView s') := by
    rw [← step_timingView, ← hview, step_timingView, hs]
    rfl
  cases ht : step t with
  | next t' =>
    rw [ht] at hstep
    exact ⟨t', rfl, (Host.Outcome.next.inj hstep).symm⟩
  | _ =>
    rw [ht] at hstep
    cases hstep

end Sys2Proof.Machine

namespace Sys2Proof.Machine

/-! ## An access leaves the emitter alone (R152) -/

theorem AccessDoes.keeps {s u : State} (h : AccessDoes s u) : AccessKeeps s u := by
  cases h with
  | flags l log ill ovr => exact { accessKeeps_refl s with }
  | argument l v => exact { accessKeeps_refl s with }
  | illegal l op arg => exact { accessKeeps_refl s with }
  | command l i _ hi he =>
    obtain ⟨hb, -⟩ := hi
    exact { exec_keeps (s := { s with inputs := l }) hb he with }

end Sys2Proof.Machine

namespace Sys2Proof.Safety

open Sys2Proof.Machine

/-! ## A frame in progress is not cut (R152) -/

/-- While an interval runs no transition is enabled: the others wait for the frame to be over (R216). -/
theorem OneWriter.zeroTime_inside {s : State} (h : OneWriter s) (hne : s.seqPhase ≠ .idle) (h0 : s.ivlCnt ≠ 0) :
    Machine.zeroTime s = none := by
  rcases hz : Machine.zeroTime s with _ | s'
  · rfl
  rcases zeroTime_cases hz with ⟨he, -⟩ | ⟨-, he, -⟩ | ⟨-, he, -⟩ | ⟨-, he, -⟩
  · exact absurd ((intervalEndEnabled_iff s).1 he).2 h0
  · obtain ⟨hr, hbg, -⟩ := (bgStopEnabled_iff s).1 he
    exact absurd (h.idle_of_session hbg (by simp [hr])) hne
  · obtain ⟨hj, hr, -⟩ := (fgJoinDoneEnabled_iff s).1 he
    exact absurd (h.idle_of_join hj hr) hne
  · obtain ⟨-, hidle, -⟩ := (bgFireEnabled_iff s).1 he
    exact absurd hidle hne

/-- A step inside an interval is its access and its tick. -/
theorem step_inside {s t : State} (hs : Inv s) (hne : s.seqPhase ≠ .idle) (h0 : s.ivlCnt ≠ 0)
    (hr : inputNow s ≠ some .reset) (h : step s = .next t) : ∃ u, AccessKeeps s u ∧ t = tick u := by
  obtain ⟨u, w, ha, hset, rfl⟩ := step_access h hr
  have hkeep := ha.keeps
  have hquiet : zeroTime u = none :=
    (settling_of_access hs ha).writer.zeroTime_inside (hkeep.seqPhase ▸ hne) (hkeep.ivlCnt ▸ h0)
  rw [settle_quiet hquiet] at hset
  cases hset
  exact ⟨u, hkeep, rfl⟩

/-- A step at the end of an interval is its access, that end and the tick of the interval entered. -/
theorem step_nextInterval {s t : State} (hs : Inv s) (hne : s.seqPhase ≠ .idle) (h0 : s.ivlCnt = 0)
    (hr : inputNow s ≠ some .reset) (h : step s = .next t) {ph : Phase} {i : BitVec 5}
    (hn : nextPosition s.seqPhase s.bitIdx = some (ph, i)) :
    ∃ u, AccessKeeps s u ∧ t = tick (enter ph i (carrierIfMark u.seqPhase 0 u)) := by
  obtain ⟨u, w, ha, hset, rfl⟩ := step_access h hr
  have hkeep := ha.keeps
  have hsettling := settling_of_access hs ha
  have hover : intervalEndEnabled u = true :=
    (intervalEndEnabled_iff u).2 ⟨hkeep.seqPhase ▸ hne, hkeep.ivlCnt ▸ h0⟩
  have hend : intervalEnd u = enter ph i (carrierIfMark u.seqPhase 0 u) := by
    rw [← hkeep.seqPhase, ← hkeep.bitIdx] at hn
    simp [intervalEnd, advance, hn]
  have hquiet : zeroTime (intervalEnd u) = none := by
    refine (hsettling.intervalEnd hover).writer.zeroTime_inside ?_ ?_ <;> rw [hend]
    · simpa using nextPosition_ne_idle hn
    · simpa using toWord_dur_ne_zero hsettling.params (nextPosition_ne_idle hn) i u.frame
  rw [settleFuel, settle_step (if_pos hover), settle_quiet hquiet] at hset
  cases hset
  exact ⟨u, hkeep, by rw [hend]⟩

/-- Settles O44: inside an interval an access leaves the emitter alone and the tick takes one from the counter; at its
end the only transition is the entry of the next interval; a reset starts afresh. -/
theorem intervalsAreNotCut : Obligations.IntervalsAreNotCut := by
  intro s t hs hne h
  refine ⟨fun hr => ?_, fun hr h0 => ?_, fun ph i hr h0 hn => ?_⟩
  · obtain ⟨l, rfl⟩ := step_of_reset h hr
    exact ⟨rfl, rfl, rfl⟩
  · obtain ⟨u, ha, rfl⟩ := step_inside hs hne h0 hr h
    refine ⟨ha.seqPhase, ha.bitIdx, ?_, ha.seqOwner, ha.carrierValue, ha.trace⟩
    rw [tick_ivlCnt, ha.seqPhase, if_pos hne, ha.ivlCnt]
    bv_omega
  · obtain ⟨u, ha, rfl⟩ := step_nextInterval hs hne h0 hr h hn
    have hph := nextPosition_ne_idle hn
    have hload : (toWord (dur s.params ph i s.frame)).toNat = dur s.params ph i s.frame :=
      Nat.mod_eq_of_lt (dur_lt hs.params ph i s.frame)
    have hone := one_le_dur hs.params hph i s.frame
    refine ⟨by simp, by simp, ?_, by simp [ha.seqOwner]⟩
    simp only [tick_ivlCnt, enter_seqPhase, enter_ivlCnt, carrierIfMark_params, carrierIfMark_frame, ha.params,
      ha.frame, if_pos hph]
    bv_omega

/-! ## TRACE in pairs (R150, R151) -/

/-- The entries at odd positions write 0, and the last pair lacks its second entry exactly where `pending`. -/
def InPairs (l : List (Nat × Nat)) (pending : Bool) : Prop :=
  (l.length % 2 = 1 ↔ pending = true) ∧ ∀ k, k % 2 = 1 → ∀ p, l[k]? = some p → p.2 = 0

theorem traceInPairs_iff (s : State) : TraceInPairs s ↔ InPairs s.trace (isMark s.seqPhase) := Iff.rfl

/-- An entry that makes up a pair writes 0. -/
theorem InPairs.append {l : List (Nat × Nat)} {pending : Bool} (h : InPairs l pending) {p : Nat × Nat}
    (hp : pending = true → p.2 = 0) : InPairs (l ++ [p]) (!pending) := by
  obtain ⟨hlen, hzero⟩ := h
  refine ⟨?_, fun k hk q hq => ?_⟩
  · cases pending <;> simp at hlen ⊢ <;> omega
  · rw [List.getElem?_append] at hq
    split_ifs at hq with hlt
    · exact hzero k hk q hq
    · obtain ⟨hi, rfl⟩ : k - l.length = 0 ∧ p = q := by simpa [List.getElem?_singleton] using hq
      exact hp (hlen.1 (by omega))

/-- Settles O40: a mark that goes on writes nothing; where none goes on, the 0 that ends one makes up the pair the mark
began, and the mark that starts begins another. -/
theorem stepKeepsTraceInPairs : Obligations.StepKeepsTraceInPairs := by
  intro s t hs hpairs h
  rw [traceInPairs_iff] at hpairs ⊢
  by_cases hr : inputNow s = some .reset
  · obtain ⟨l, rfl⟩ := step_of_reset h hr
    exact ⟨by simp [isMark], by simp⟩
  rw [markWritesTraceTwice s t hs hr h, markWrites]
  by_cases hon : isMark s.seqPhase = true ∧ s.ivlCnt ≠ 0
  · obtain ⟨hm, h0⟩ := hon
    obtain ⟨u, ha, rfl⟩ := step_inside hs (ne_idle_of_isMark hm) h0 hr h
    rw [if_neg (fun hend => h0 hend.2), if_neg (fun hstart => hstart.2 ⟨hm, h0⟩), List.append_nil, List.append_nil,
      tick_seqPhase, ha.seqPhase]
    exact hpairs
  have hclosed : InPairs (s.trace ++ if isMark s.seqPhase = true ∧ s.ivlCnt = 0 then [(s.now, 0)] else []) false := by
    cases hm : isMark s.seqPhase <;> rw [hm] at hpairs
    · simpa using hpairs
    · have h0 : s.ivlCnt = 0 := by simpa [hm] using hon
      simpa [h0] using hpairs.append (p := (s.now, 0)) (fun _ => rfl)
  rw [← List.append_assoc]
  cases hm : isMark t.seqPhase
  · simpa using hclosed
  · have hstart : true = true ∧ ¬(isMark s.seqPhase = true ∧ s.ivlCnt ≠ 0) := ⟨rfl, hon⟩
    rw [if_pos hstart]
    exact hclosed.append (p := (s.now, onValue t)) nofun

end Sys2Proof.Safety

namespace Sys2Proof.Machine

/-! ## The issue of SEND_RAW (R185, R188, R205, R210) -/

/-- All that the begin of a join changes: `BUSY`, the stage, and the cancellation of a session that is on (R205,
R210). -/
theorem beginJoin_record (s : State) :
    beginJoin s = { s with
      busy := true, fgStage := .join
      rptState := if s.rptState = .repeating then .stopping else s.rptState
      cancelLat := if s.rptState = .repeating then toWord (cancelLatency s) else s.cancelLat
      draws := if s.rptState = .repeating ∧ bgEmitting s = false then s.draws + 1 else s.draws } := by
  have hlat : cancelLatency { s with busy := true, fgStage := .join } = cancelLatency s := rfl
  have hbg : bgEmitting { s with busy := true, fgStage := .join } = bgEmitting s := rfl
  rw [beginJoin]
  rcases requestCancel_cases { s with busy := true, fgStage := .join } with ⟨hr, he⟩ | ⟨hr, he⟩
  · replace hr : s.rptState = .repeating := hr
    rw [he, hlat, hbg]
    cases bgEmitting s <;> simp [hr]
  · replace hr : s.rptState ≠ .repeating := hr
    rw [he]
    simp [hr]

theorem exec_sendRaw_of_valid {code : Word} (h : (decodeRaw code).valid = true) (s : State) :
    exec (.sendRaw code) s = .next (beginJoin (latch opSendRaw code false s)) := if_pos h

theorem exec_sendRaw_of_not_valid {code : Word} (h : ¬(decodeRaw code).valid = true) (s : State) :
    exec (.sendRaw code) s = .next { latch opSendRaw code false s with rDuration := 0 } := if_neg h

/-- Settles O20: the checksum decides between the begin of a join and the result 0. -/
theorem sendRawIssue : Obligations.SendRawIssue := by
  refine ⟨fun code s h => ?_, fun code s h => exec_sendRaw_of_not_valid (mt (decodeRaw_valid_iff code).1 h) s⟩
  refine ⟨cancelLatency s, cancelLatency_le s, cancelLatency_of_bgEmitting, ?_⟩
  rw [exec_sendRaw_of_valid ((decodeRaw_valid_iff code).2 h), beginJoin_record]
  rfl

/-! ## The frame of SEND_RAW (R186, R187) -/

/-- Settles O13: the frame encodes again what the code decodes to, which changes a code exactly where property 6 of the
codec says (R138). -/
theorem sendRawFrameMayDiffer : Obligations.SendRawFrameMayDiffer := by
  obtain ⟨-, -, -, -, -, -, hsame, hmarked, -⟩ := codecProperties
  refine ⟨fun code h => ?_, by decide⟩
  split_ifs with hbytes
  · obtain ⟨hhigh, hlow⟩ := hbytes
    exact hmarked code h hhigh hlow
  · exact hsame code h hbytes

/-! ## A SEND frame leaves time in its period (R6(d), R137, R183) -/

/-- A frame with both data bits in it is shorter than the longest, whose bits are all the longer one. -/
theorem frameDuration_lt_durMax {p : Params} {F : Word} (hne : p.bit0Space ≠ p.bit1Space) (hpos : 0 < popcount F)
    (hlt : popcount F < 32) : frameDuration p F < p.durMax := by
  have hsum : ∀ b, popcount F * b + (32 - popcount F) * b = 32 * b := fun b => by
    rw [← Nat.add_mul, Nat.add_sub_cancel' hlt.le]
  simp only [frameDuration, Params.durMax]
  rcases hne.lt_or_gt with hbit | hbit
  · have hzero := Nat.mul_lt_mul_of_pos_left hbit (Nat.sub_pos_of_lt hlt)
    rw [max_eq_right hbit.le, ← hsum p.bit1Space]
    omega
  · have hone := Nat.mul_lt_mul_of_pos_left hbit hpos
    rw [max_eq_left hbit.le, ← hsum p.bit0Space]
    omega

/-- A `SEND` frame has from 9 to 24 bits that are 1 (R137). -/
theorem popcount_encodeRaw_bounds (a : Half) (c : Byte) :
    9 ≤ popcount (encodeRaw a c) ∧ popcount (encodeRaw a c) ≤ 24 := by
  obtain ⟨-, hshort, hextended⟩ := sendFrameOneBits a c
  rcases Nat.lt_or_ge a.toNat 0x100 with h | h
  · have hbits := hshort (Nat.le_of_lt_succ h)
    omega
  · exact hextended h

theorem frameDuration_encodeRaw_lt_repeatPeriod {p : Params} (hp : p.Valid) (a : Half) (c : Byte) :
    frameDuration p (encodeRaw a c) < p.repeatPeriod := by
  obtain ⟨-, hne, -, hperiod, -⟩ := hp
  obtain ⟨hge, hle⟩ := popcount_encodeRaw_bounds a c
  exact (frameDuration_lt_durMax hne (by omega) (by omega)).trans_le hperiod

/-! ## The start of a session (R183, R202, R213) -/

/-- Nothing is enabled while BG waits. -/
theorem SessionWaits.zeroTime_waiting {s : State} (h : SessionWaits s) (h0 : s.rptWait ≠ 0) : zeroTime s = none := by
  rw [zeroTime_none_iff]
  exact ⟨by simp [intervalEndEnabled, h.between], by simp [bgStopEnabled, h.session],
    by simp [fgJoinDoneEnabled, h.session], by simpa [bgFireEnabled, h.session, h.between] using h0⟩

/-- Where BG waits once an interval is over, the step goes on as one of the wait. -/
theorem step_of_interval_over_waiting {s : State} (hin : s.inputs = []) (hne : s.seqPhase ≠ .idle) (h0 : s.ivlCnt = 0)
    (hwaits : SessionWaits (intervalEnd s)) (hwait : (intervalEnd s).rptWait ≠ 0) :
    step s = .next { intervalEnd s with
      now := (intervalEnd s).now + 1, rptWait := (intervalEnd s).rptWait - 1 } := by
  have hquiet := hwaits.zeroTime_waiting hwait
  calc step s
      = .next (tick (intervalEnd s)) := step_of_interval_over hin hne h0 hquiet
    _ = step (intervalEnd s) := ((step_of_no_input hwaits.inputs).trans (finishInstant_quiet hquiet)).symm
    _ = _ := hwaits.step_waiting hwait

/-- The end of FG's frame where auto-repeat was asked for and time is left in the period: FG is idle, with its results,
the session is on, and a tick of its first wait passes (R183, R202, R213). -/
theorem EmitterAlone.step_sessionStart {u : State} (h : EmitterAlone u) (hp : u.params.Valid)
    (hauto : u.cmdOp = opSend ∧ u.autoRpt = true) {ph : Phase} {i : BitVec 5} {n : Nat} {tr : List (Nat × Nat)}
    (hmark : isMark ph = true) (hn : nextPosition ph i = none) (hlt : n < u.params.repeatPeriod) :
    step (atIntervalEnd .fg ph i n tr u) = .next { u with
      seqOwner := .fg, seqPhase := .idle, bitIdx := i, ivlCnt := 0, durAcc := toWord n, rDuration := toWord n
      fgStage := .idle, busy := false, rptState := .repeating, rptWait := toWord (u.params.repeatPeriod - n - 1)
      carrierValue := 0, now := u.now + n + 1, trace := u.trace ++ (tr ++ [(u.now + n, 0)]) } := by
  obtain ⟨-, -, -, -, ⟨hperiod, -⟩, -⟩ := hp
  have hsum : (toWord n).toNat = n := Nat.mod_eq_of_lt (hlt.trans hperiod)
  have hend : intervalEnd (atIntervalEnd .fg ph i n tr u) = { u with
      seqOwner := .fg, seqPhase := .idle, bitIdx := i, ivlCnt := 0, durAcc := toWord n, rDuration := toWord n
      fgStage := .idle, busy := false, rptState := .repeating, rptWait := toWord (u.params.repeatPeriod - n)
      carrierValue := 0, now := u.now + n, trace := u.trace ++ (tr ++ [(u.now + n, 0)]) } := by
    rw [intervalEnd_of_last hmark hn, ← List.append_assoc, show u.params.repeatPeriod - n =
      satSub u.params.repeatPeriod (toWord n).toNat by rw [hsum]; rfl]
    rcases fgComplete_eq (toWord n) { carrierSet 0 (atIntervalEnd .fg ph i n tr u) with seqPhase := .idle }
      with ⟨-, he⟩ | ⟨hnot, -⟩
    · exact he
    · exact absurd hauto hnot
  have hwait : toWord (u.params.repeatPeriod - n) ≠ 0#32 := by
    simp only [toWord]; bv_omega
  have hless : toWord (u.params.repeatPeriod - n - 1) = toWord (u.params.repeatPeriod - n) - 1 := by
    simp only [toWord]; bv_omega
  have hstep := step_of_interval_over_waiting (s := atIntervalEnd .fg ph i n tr u) h.inputs (ne_idle_of_isMark hmark)
    rfl (by rw [hend]; exact ⟨h.inputs, nofun, rfl, rfl⟩) (by rw [hend]; exact hwait)
  rw [hstep, hend, hless]

end Sys2Proof.Machine

namespace Sys2Proof.Safety

open Sys2Proof.Machine

/-! ## SEND with auto-repeat (R180, R182, R183, R202) -/

/-- Settles O51: the join ends at the issue, the 67 intervals follow, and the last one's end completes and starts the
session, whose first wait is not 0. -/
theorem sendWithRepeatRuns : Obligations.SendWithRepeatRuns := by
  intro a c s hs hquiet hissue
  have hF : fullFrameOf (.send a c true) = some (encodeRaw a c) := rfl
  have hstep := step_of_fullFrame hs.params hquiet hissue hF
  obtain ⟨-, hr, -⟩ := hquiet
  obtain ⟨-, hin⟩ := hissue
  have hrun : WithoutReset s.params s := ⟨hs, by simp [NoReset, hin], rfl⟩
  refine ⟨fun k h1 hk => ?_, ?_⟩
  · exact run_busy_of_start (u := startingFrame (.send a c true) (encodeRaw a c) s) hrun rfl hstep h1 hk
  · have halone : EmitterAlone (startingFrame (.send a c true) (encodeRaw a c) s) :=
      ⟨rfl, nofun, fun hstop => absurd (hr.symm.trans hstop) nofun⟩
    have hframe := halone.run_fullFrame hs.params hstep
    have hend := halone.step_sessionStart hs.params ⟨rfl, rfl⟩ (ph := .trailMark) (i := 31)
      (n := frameDuration s.params (encodeRaw a c)) (tr := fullEdges (onValue s) s.now s.params (encodeRaw a c)) rfl rfl
      (frameDuration_encodeRaw_lt_repeatPeriod hs.params a c)
    rw [intervalsTrace_frameIntervals]
    exact (run_add hframe 1).trans (run_succ hend 0)

end Sys2Proof.Safety

namespace Sys2Proof.Machine

open Sys2Proof.Safety (Issues inputNow)

/-! ## What the background moves (R204, R215) -/

/-- `s` with the elements a background frame and the cadence wait move taken from `b`: the emitter, the wait, the
carrier with its record, and the time. -/
def withBackground (b s : State) : State :=
  { s with
    seqPhase := b.seqPhase
    bitIdx := b.bitIdx
    ivlCnt := b.ivlCnt
    durAcc := b.durAcc
    seqOwner := b.seqOwner
    rptWait := b.rptWait
    carrierValue := b.carrierValue
    now := b.now
    trace := b.trace }

/-- From `s` to `u` nothing has moved but what the background and the time move. -/
def BackgroundMoves (s u : State) : Prop := ∃ b, u = withBackground b s

theorem backgroundMoves_refl (s : State) : BackgroundMoves s s := ⟨s, rfl⟩

theorem BackgroundMoves.trans {s u w : State} (h : BackgroundMoves s u) (h' : BackgroundMoves u w) :
    BackgroundMoves s w := by
  obtain ⟨b, rfl⟩ := h
  obtain ⟨b', rfl⟩ := h'
  exact ⟨b', rfl⟩

theorem backgroundMoves_bgFire (s : State) : BackgroundMoves s (bgFire s) := by
  obtain ⟨tr, he⟩ := startFrame_eq .bg .repeatFrame s
  exact ⟨bgFire s, by rw [bgFire, he]; rfl⟩

/-- Where no latency runs, a tick moves the background and the time only. -/
theorem backgroundMoves_tick {s : State} (h : s.rptState = .stopping → bgEmitting s = true) :
    BackgroundMoves s (tick s) := by
  have hlat : (tick s).cancelLat = s.cancelLat := by
    rw [tick_cancelLat]
    exact if_neg fun ⟨hr, hbg, _⟩ => absurd ((h hr).symm.trans hbg) nofun
  refine ⟨tick s, ?_⟩
  calc tick s = { withBackground (tick s) s with cancelLat := (tick s).cancelLat } := rfl
    _ = withBackground (tick s) s := by rw [hlat]; rfl

/-- The last interval of a frame is its trail mark (R100, R103). -/
theorem trailMark_of_last {ph : Phase} {i : BitVec 5} (hne : ph ≠ .idle) (h : nextPosition ph i = none) :
    ph = .trailMark ∨ ph = .rptTrailMark := by
  cases ph
  case idle => exact absurd rfl hne
  case bitSpace => simp only [nextPosition] at h; split at h <;> cases h
  case trailMark => exact .inl rfl
  case rptTrailMark => exact .inr rfl
  all_goals cases h

/-! ## The coordinator's state (R200, R202, R207) -/

/-- A zero-time transition keeps the coordinator's state, or ends a session that is stopping, or starts one. -/
theorem zeroTime_rptState_cases {s s' : State} (h : zeroTime s = some s') :
    s'.rptState = s.rptState ∨ (s.rptState = .stopping ∧ s'.rptState = .idle) ∨ s'.rptState = .repeating := by
  rcases zeroTime_cases h with ⟨-, rfl⟩ | ⟨-, he, rfl⟩ | ⟨-, -, rfl⟩ | ⟨-, -, rfl⟩
  · rcases intervalEnd_cases s with ⟨ph, i, -, he⟩ | ⟨-, he⟩ <;> rw [he]
    · exact .inl (by simp)
    rcases frameEnd_cases (carrierIfMark s.seqPhase 0 s) with ⟨-, hf⟩ | ⟨-, hf⟩ <;> rw [hf]
    · rcases fgComplete_eq (carrierIfMark s.seqPhase 0 s).durAcc
        { carrierIfMark s.seqPhase 0 s with seqPhase := .idle } with ⟨-, hc⟩ | ⟨-, hc⟩ <;> rw [hc]
      · exact .inr (.inr rfl)
      · exact .inl (by simp)
    · exact .inl (by simp)
  · exact .inr (.inl ⟨((bgStopEnabled_iff s).1 he).1, rfl⟩)
  · rcases fgJoinDone_cases s with ⟨k, F, he⟩ | he <;> exact .inl (by simp [he, fgStart])
  · exact .inl (by simp [bgFire])

/-- No transition turns the session to STOPPING: that is a command's issue (R205). -/
theorem zeroTime_not_stopping {s s' : State} (h : zeroTime s = some s') (hr : s.rptState ≠ .stopping) :
    s'.rptState ≠ .stopping := by
  rcases zeroTime_rptState_cases h with he | ⟨hstop, -⟩ | he
  · rwa [he]
  · exact absurd hstop hr
  · simp [he]

/-- No transition takes the session out of REPEATING. -/
theorem zeroTime_repeating {s s' : State} (h : zeroTime s = some s') (hr : s.rptState = .repeating) :
    s'.rptState = .repeating := by
  rcases zeroTime_rptState_cases h with he | ⟨hstop, -⟩ | he
  · exact he.trans hr
  · exact absurd (hr.symm.trans hstop) nofun
  · exact he

/-- An access leaves the coordinator's state alone but for the issue of a joining command (R205). -/
theorem AccessDoes.rptState {s u : State} (h : AccessDoes s u) :
    u.rptState = s.rptState ∨ ∃ i, Issues s i ∧ joining i.opcode i.operand = true := by
  cases h with
  | flags l log ill ovr => exact .inl rfl
  | argument l v => exact .inl rfl
  | illegal l op arg => exact .inl rfl
  | command l i _ hi he =>
    rcases hj : joining i.opcode i.operand
    · obtain ⟨ticks, code, dec, duty, hx, -⟩ := exec_of_not_joining hj { s with inputs := l }
      cases he.symm.trans hx
      exact .inl rfl
    · exact .inr ⟨i, hi, hj⟩

/-! ## The issue of a command, and the end of `STOP_REPEAT` (R92, R208, R212) -/

/-- The step in which a command is issued runs it. -/
theorem step_of_issues {s : State} {i : Instr} (h : Issues s i) :
    step s = andThen (exec i (takeInput s).2) finishInstant := by
  obtain ⟨hb, v, hin, hd⟩ := h
  obtain ⟨l, hl⟩ := takeInput_snd s
  obtain ⟨-, hwrite⟩ := Safety.hostWrites
  rw [hwrite s 1 v hin, hl]
  exact congrArg (andThen · finishInstant) ((if_neg (by simp [hb])).trans (issue_of_decode hd))

/-- With no session on and no frame in progress, `STOP_REPEAT` completes at once (R208, R211, R212). -/
theorem settle_of_stopRepeat {s : State} (hp : s.params.Valid) (hi : s.seqPhase = .idle) (hr : s.rptState = .idle)
    (hstage : s.fgStage = .join) (hop : s.cmdOp = opStopRepeat) :
    settle 1 s = some { s with fgStage := .idle, busy := false } := by
  have hlatched : joining s.cmdOp s.cmdArg = true := by rw [hop]; rfl
  have hruns : intervalEndEnabled s = false := by simp [intervalEndEnabled, hi]
  have hz : zeroTime s = some (fgJoinDone s) := by
    simp [zeroTime, hruns, bgStopEnabled, hr, (fgJoinDoneEnabled_iff s).2 ⟨hstage, hr, hlatched⟩]
  have hdone : fgJoinDone s = { s with fgStage := .idle, busy := false } := by
    rcases fgJoinDone_command hlatched with ⟨k, F, hne, -⟩ | ⟨-, he⟩
    · exact absurd hop hne
    · exact he
  rw [settle_step hz, settle_quiet (zeroTime_fgJoinDone hp hruns hr), hdone]

/-- With the latency over and BG between frames, the session ends, though the cadence wait may have run out, and
`STOP_REPEAT` completes (R207, R208, R252). -/
theorem settle_of_stopRepeat_stopping {s : State} (hp : s.params.Valid) (hi : s.seqPhase = .idle)
    (hr : s.rptState = .stopping) (h0 : s.cancelLat = 0) (hstage : s.fgStage = .join) (hop : s.cmdOp = opStopRepeat) :
    settle 2 s = some { s with rptState := .idle, rptWait := 0, fgStage := .idle, busy := false } := by
  have hz : zeroTime s = some (bgStop s) := by
    simp [zeroTime, intervalEndEnabled, bgStopEnabled, bgEmitting, hi, hr, h0]
  rw [settle_step hz, settle_of_stopRepeat (s := bgStop s) hp hi rfl hstage hop]
  rfl

/-- Between frames and outside a session a tick moves the time only. -/
theorem tick_of_no_session {s : State} (hi : s.seqPhase = .idle) (hr : s.rptState = .idle) :
    tick s = { s with now := s.now + 1 } := by
  simp [tick, hi, hr]

end Sys2Proof.Machine

namespace Sys2Proof.Safety

open Sys2Proof.Machine

/-! ## The background beside an idle foreground (R204, R218) -/

/-- An interval of a background frame ends, and the frame with its last one. -/
theorem Settling.backgroundMoves_intervalEnd {s : State} (h : Settling s) (ho : s.seqOwner = .bg) :
    BackgroundMoves s (Machine.intervalEnd s) := by
  refine ⟨Machine.intervalEnd s, ?_⟩
  rcases h.intervalEnd_eq with ⟨ph, i, tr, -, he⟩ | ⟨-, hfg, -⟩ | ⟨-, -, tr, he⟩
  · rw [he]; rfl
  · exact absurd (ho.symm.trans hfg) nofun
  · rw [he]; rfl

/-- While FG is idle, what a transition moves is the background's. -/
theorem Settling.backgroundMoves_zeroTime {u u' : State} (h : Settling u) (hi : u.fgStage = .idle)
    (hz : Machine.zeroTime u = some u') : BackgroundMoves u u' := by
  rcases zeroTime_cases hz with ⟨he, rfl⟩ | ⟨-, he, -⟩ | ⟨-, he, -⟩ | ⟨-, -, rfl⟩
  · obtain ⟨hne, -⟩ := (intervalEndEnabled_iff u).1 he
    rcases ho : u.seqOwner
    · exact absurd (h.idle_of_foreground (by simp [hi]) ho) hne
    · exact h.backgroundMoves_intervalEnd ho
  · obtain ⟨hr, -⟩ := (bgStopEnabled_iff u).1 he
    exact absurd (hi.symm.trans (h.stopping hr)) nofun
  · obtain ⟨hj, -⟩ := (fgJoinDoneEnabled_iff u).1 he
    exact absurd (hi.symm.trans hj) nofun
  · exact backgroundMoves_bgFire u

/-- While FG is idle, a step in which the host writes nothing moves the background, the schedule and the record of
reads. -/
theorem step_of_stage_idle {s t : State} (hs : Inv s) (hi : s.fgStage = .idle)
    (hin : inputNow s = none ∨ ∃ idx, inputNow s = some (.read idx)) (h : step s = .next t) :
    ∃ l log, BackgroundMoves { s with inputs := l, readLog := log } t := by
  obtain ⟨l, hl⟩ := takeInput_snd s
  obtain ⟨log, hfinish⟩ : ∃ log, finishInstant { s with inputs := l, readLog := log } = .next t := by
    rcases step_cases h with ⟨he, -⟩ | ⟨-, hf⟩ | ⟨idx, -, hf⟩ | ⟨idx, v, u, he, -⟩
    · rcases hin with hin | ⟨idx, hin⟩ <;> cases hin.symm.trans he
    · exact ⟨s.readLog, hl ▸ hf⟩
    · rw [hl] at hf
      exact ⟨_, hf⟩
    · rcases hin with hin | ⟨idx', hin⟩ <;> cases hin.symm.trans he
  obtain ⟨w, hset, rfl⟩ := finishInstant_next hfinish
  obtain ⟨⟨hw, hidle, hmoves⟩, -⟩ := settle_keeps
    (P := fun x => Settling x ∧ x.fgStage = .idle ∧ BackgroundMoves { s with inputs := l, readLog := log } x)
    (fun x x' ⟨hx, hstage, hm⟩ hz => ⟨hx.zeroTime hz, (hx.zeroTime_of_stage_idle hstage hz).1,
      hm.trans (hx.backgroundMoves_zeroTime hstage hz)⟩)
    hset ⟨settling_of_access hs (.flags l log s.ill s.ovr), hi, backgroundMoves_refl _⟩
  exact ⟨l, log, hmoves.trans (backgroundMoves_tick fun hr => absurd (hidle.symm.trans (hw.stopping hr)) nofun)⟩

/-- A full frame is in progress only while FG is emitting (R42 points 2 and 7). -/
theorem Inv.emit_of_fullFrame {s : State} (h : Inv s) (hf : inFullFrame s.seqPhase = true) : s.fgStage = .emit := by
  obtain ⟨-, hemit, -, -, -, -, hfull⟩ := h.guarantees
  exact hemit.2 ⟨fun hi => absurd (hi ▸ hf) nofun, hfull hf⟩

/-- Settles O46: the background moves no element of the foreground's, and a full frame would be FG's. -/
theorem backgroundLeavesForeground : Obligations.BackgroundLeavesForeground := by
  intro s t hs hi hin h
  have hinv := stepKeepsInvariant s t hs h
  obtain ⟨l, log, b, rfl⟩ := step_of_stage_idle hs hi hin h
  refine ⟨rfl, rfl, rfl, rfl, rfl, rfl, rfl, rfl, rfl, rfl, rfl, rfl, rfl, rfl, Bool.eq_false_iff.2 fun hf => ?_⟩
  exact absurd (hi.symm.trans (hinv.emit_of_fullFrame hf)) nofun

end Sys2Proof.Safety

namespace Sys2Proof.Machine

open Sys2Proof.Safety (run run_succ)

/-! ## The wait for the latency (R206, R207) -/

/-- A join waits for the latency of the session it stops: BG is between frames, and no input is to come. -/
structure LatencyRuns (s : State) : Prop where
  inputs : s.inputs = []
  stopping : s.rptState = .stopping
  between : s.seqPhase = .idle

theorem LatencyRuns.step_running {s : State} (h : LatencyRuns s) (h0 : s.cancelLat ≠ 0) :
    step s = .next { s with now := s.now + 1, cancelLat := s.cancelLat - 1 } := by
  have hquiet : zeroTime s = none := by
    rw [zeroTime_none_iff]
    exact ⟨by simp [intervalEndEnabled, h.between],
      by simpa [bgStopEnabled, h.stopping, bgEmitting, h.between] using h0, by simp [fgJoinDoneEnabled, h.stopping],
      by simp [bgFireEnabled, h.stopping]⟩
  have hne : ¬s.cancelLat = 0#32 := h0
  rw [step_of_no_input h.inputs, finishInstant_quiet hquiet]
  simp [tick, h.stopping, h.between, bgEmitting, hne]

/-- The latency runs down. -/
theorem LatencyRuns.run_latency {s : State} (h : LatencyRuns s) {k : Nat} (hk : k ≤ s.cancelLat.toNat) :
    run k s = .next { s with now := s.now + k, cancelLat := s.cancelLat - BitVec.ofNat 32 k } := by
  induction k generalizing s with
  | zero =>
    simp only [Nat.add_zero, BitVec.sub_zero]
    rfl
  | succ k ih =>
    have h0 : s.cancelLat ≠ 0 := fun h0 => by simp [h0] at hk
    have hrest := ih (s := { s with now := s.now + 1, cancelLat := s.cancelLat - 1 })
      ⟨h.inputs, h.stopping, h.between⟩ (by dsimp only; bv_omega)
    have hcount : s.cancelLat - 1 - BitVec.ofNat 32 k = s.cancelLat - BitVec.ofNat 32 (k + 1) := by bv_omega
    rw [run_succ (h.step_running h0), hrest, hcount, Nat.add_right_comm, Nat.add_assoc]

/-- At the end of the latency the session and `STOP_REPEAT` are over. -/
theorem LatencyRuns.step_over {s : State} (h : LatencyRuns s) (hp : s.params.Valid) (h0 : s.cancelLat = 0)
    (hstage : s.fgStage = .join) (hop : s.cmdOp = opStopRepeat) :
    step s = .next { s with
      rptState := .idle, rptWait := 0, fgStage := .idle, busy := false, now := s.now + 1 } := by
  have hsettle := settle_of_stopRepeat_stopping hp h.between h.stopping h0 hstage hop
  rw [step_of_no_input h.inputs, finishInstant_of_settle hsettle (by decide)]
  exact congrArg Host.Outcome.next (tick_of_no_session h.between rfl)

end Sys2Proof.Machine

namespace Sys2Proof.Safety

open Sys2Proof.Machine

/-! ## `STOP_REPEAT` with no session (R208, R212) -/

theorem Inv.stage_idle_of_not_busy {s : State} (h : Inv s) (hb : s.busy = false) : s.fgStage = .idle := by
  by_contra hne
  exact absurd (hb.symm.trans (h.busy.2 hne)) nofun

/-- No command is in execution while a session is on and not stopping. -/
theorem Inv.not_busy_of_repeating {s : State} (h : Inv s) (hr : s.rptState = .repeating) : s.busy = false := by
  refine Bool.eq_false_iff.2 fun hb => ?_
  rcases hstage : s.fgStage
  case idle => exact h.busy.1 hb hstage
  case join => exact h.settling.joinSession hstage hr
  case emit =>
    obtain ⟨-, hidle⟩ := h.busy_of_emit hstage
    exact absurd (hr.symm.trans hidle) nofun

/-- With no command in execution and no session on, no frame is in progress (R42 points 1 and 2). -/
theorem Inv.phase_idle {s : State} (h : Inv s) (hb : s.busy = false) (hr : s.rptState = .idle) :
    s.seqPhase = .idle := by
  by_contra hne
  rcases ho : s.seqOwner
  · obtain ⟨hemit, -⟩ := h.settling.writer.foreground hne ho
    exact absurd ((h.stage_idle_of_not_busy hb).symm.trans hemit) nofun
  · obtain ⟨hsession, -⟩ := h.settling.writer.background hne ho
    exact hsession hr

/-- With no command in execution, no frame and no session, an instant that begins with `STOP_REPEAT` latches it and lets
the time pass: the join ends at once (R208, R212). -/
theorem stopRepeat_of_no_session {s : State} (hp : s.params.Valid) (hi : s.seqPhase = .idle) (hr : s.rptState = .idle)
    (hb : s.busy = false) (hstage : s.fgStage = .idle) :
    andThen (exec .stopRepeat s) finishInstant = .next { s with
      cmdOp := 0x07, cmdArg := 0, autoRpt := false, now := s.now + 1 } := by
  obtain ⟨delta, -, -, hexec⟩ := joiningCommandsIssue _ _ _ .stopRepeat s (.inr (.inr (.inr ⟨rfl, rfl, rfl, rfl⟩)))
  have hover : { latch opStopRepeat 0 false s with fgStage := .idle, busy := false } =
      latch opStopRepeat 0 false s := by
    simp [latch, hb, hstage]
  have hsettle := settle_of_stopRepeat (s := { latch opStopRepeat 0 false s with busy := true, fgStage := .join })
    hp hi hr rfl rfl
  calc andThen (exec .stopRepeat s) finishInstant
      = finishInstant { latch opStopRepeat 0 false s with busy := true, fgStage := .join } := by
        rw [hexec]; simp [latch, hr, opStopRepeat]
    _ = .next (tick { latch opStopRepeat 0 false s with fgStage := .idle, busy := false }) :=
        finishInstant_of_settle hsettle (by decide)
    _ = .next (tick (latch opStopRepeat 0 false s)) := by rw [hover]
    _ = _ := congrArg Host.Outcome.next (tick_of_no_session hi hr)

/-- Settles O59: no frame is in progress where no command is in execution and no session is on. -/
theorem stopWhenIdleIsNoOp : Obligations.StopWhenIdleIsNoOp := by
  intro s hs hr hissue
  have hb : s.busy = false := hissue.1
  have hi := hs.phase_idle hb hr
  have hstage := hs.stage_idle_of_not_busy hb
  obtain ⟨l, hl⟩ := takeInput_snd s
  rw [step_of_issues hissue, hl]
  exact stopRepeat_of_no_session (s := { s with inputs := l }) hs.params hi hr hb hstage

/-! ## `STOP_REPEAT` in a session (R205, R208) -/

/-- `s` with `STOP_REPEAT` just issued as its last input: FG is in the join, and the session is stopping with the
latency `delta`. -/
def stopIssued (delta : Nat) (s : State) : State :=
  { s with
    cmdOp := opStopRepeat, cmdArg := 0, autoRpt := false, busy := true, fgStage := .join, rptState := .stopping
    cancelLat := toWord delta, draws := if bgEmitting s = true then s.draws else s.draws + 1, inputs := [] }

theorem issues_of_aboutToIssue {i : Instr} {s : State} (h : AboutToIssue i s) (hb : s.busy = false) : Issues s i := by
  obtain ⟨harg, hin⟩ := h
  refine ⟨hb, i.opcode.setWidth 32, by simp [inputNow, takeInput, hin], ?_⟩
  rw [byte0_setWidth, harg]
  exact decodeEncodeGivesBack i

/-- In a session the step that issues `STOP_REPEAT` goes on as a step of the join. -/
theorem step_of_stopRepeat {s : State} (hs : Inv s) (hr : s.rptState = .repeating) (h : AboutToIssue .stopRepeat s) :
    ∃ delta ≤ s.params.cancelLatencyMax, (bgEmitting s = true → delta = 0) ∧ Settling (stopIssued delta s) ∧
      step s = step (stopIssued delta s) := by
  have hb := hs.not_busy_of_repeating hr
  obtain ⟨delta, hle, hzero, hexec⟩ := joiningCommandsIssue _ _ _ .stopRepeat { s with inputs := [] }
    (.inr (.inr (.inr ⟨rfl, rfl, rfl, rfl⟩)))
  have hissued : exec .stopRepeat { s with inputs := [] } = .next (stopIssued delta s) := by
    have hbg : bgEmitting { s with inputs := [] } = bgEmitting s := rfl
    rw [hexec, stopIssued, hbg]
    cases bgEmitting s <;> simp [hr, opStopRepeat, toWord]
  refine ⟨delta, hle, hzero, settling_of_access hs (.command [] _ _ (issues_of_aboutToIssue h hb) hissued), ?_⟩
  rw [step_of_aboutToIssue h hb, hissued, andThen_next, step_of_no_input (s := stopIssued delta s) rfl]

/-- Runs of a machine from states with one step go alike. -/
theorem coreRun_congr {M : Host.Core} {s u : M.State} (h : M.step s = M.step u) (k : Nat) :
    M.run (k + 1) s = M.run (k + 1) u := by
  simp only [Host.Core.run, h]

theorem run_congr {s u : State} (h : step s = step u) {k : Nat} (hk : 1 ≤ k) : run k s = run k u := by
  obtain ⟨k, rfl⟩ := Nat.exists_eq_add_of_le' hk
  exact coreRun_congr (M := Sys2Proof.core) h k

/-- Settles O54: the join waits for the latency loaded at the issue, BG waiting too, and then ends. -/
theorem stopEndsWaitingSession : Obligations.StopEndsWaitingSession := by
  intro s hs hr hi hissue
  obtain ⟨delta, hle, -, -, hstep⟩ := step_of_stopRepeat hs hr hissue
  have hruns : LatencyRuns (stopIssued delta s) := ⟨rfl, rfl, hi⟩
  have hbg : ¬bgEmitting s = true := by simp [bgEmitting, hi]
  obtain ⟨-, -, -, -, ⟨-, -, -, hfit⟩, -⟩ := hs.params
  have hload : (stopIssued delta s).cancelLat.toNat = delta := Nat.mod_eq_of_lt (hle.trans_lt hfit)
  refine ⟨delta, hle, fun k h1 hk => ?_, ?_⟩
  · rw [run_congr hstep h1, hruns.run_latency (hk.trans hload.ge)]
    exact ⟨_, rfl, rfl, rfl⟩
  · have hzero : (stopIssued delta s).cancelLat - BitVec.ofNat 32 delta = 0 := BitVec.sub_self _
    have hwait := hruns.run_latency hload.ge
    rw [hzero] at hwait
    have hover := LatencyRuns.step_over (s := { stopIssued delta s with now := s.now + delta, cancelLat := 0 })
      ⟨rfl, rfl, hi⟩ hs.params rfl rfl rfl
    rw [run_congr hstep (by omega)]
    refine (run_add hwait 1).trans ((run_succ hover 0).trans ?_)
    simp only [stopIssued, if_neg hbg]
    rfl

/-! ## `STOP_REPEAT` inside a background frame (R206, R217, D12) -/

/-- `STOP_REPEAT`, issued in `s` inside a background frame, waits in `x` for what is left of that frame. -/
structure StopAwaitsFrame (s x : State) : Prop where
  settling : Settling x
  frame : bgEmitting x = true
  moves : BackgroundMoves (stopIssued 0 s) x
  now : x.now + frameTicksLeft x = s.now + frameTicksLeft s

/-- A tick inside the frame takes one of the ticks left. -/
theorem StopAwaitsFrame.tick {s x : State} (h : StopAwaitsFrame s x) (hq : zeroTime x = none) :
    StopAwaitsFrame s (tick x) ∧ frameTicksLeft (Machine.tick x) + 1 = frameTicksLeft x := by
  obtain ⟨hne, -⟩ := (bgEmitting_iff x).1 h.frame
  obtain ⟨hruns, -⟩ := (zeroTime_none_iff x).1 hq
  have hleft := frameTicksLeft_tick hne (ivlCnt_ne_zero hruns hne)
  have hnow := h.now
  exact ⟨⟨(h.settling.tick hq).settling, h.frame, h.moves.trans (backgroundMoves_tick fun _ => h.frame),
    by rw [tick_now]; omega⟩, hleft⟩

/-- The next interval of the frame: as much of the frame is left, and nothing more is enabled. -/
theorem StopAwaitsFrame.nextInterval {s x : State} (h : StopAwaitsFrame s x) (he : intervalEndEnabled x = true)
    {ph : Phase} {i : BitVec 5} (hn : nextPosition x.seqPhase x.bitIdx = some (ph, i)) :
    StopAwaitsFrame s (intervalEnd x) ∧ frameTicksLeft (intervalEnd x) = frameTicksLeft x ∧
      zeroTime (intervalEnd x) = none := by
  obtain ⟨-, h0⟩ := (intervalEndEnabled_iff x).1 he
  obtain ⟨-, ho⟩ := (bgEmitting_iff x).1 h.frame
  have hset := h.settling.intervalEnd he
  have hmoves := h.moves.trans (h.settling.backgroundMoves_intervalEnd ho)
  have hruns := intervalEnd_interval_runs h.settling.params
  rcases h.settling.intervalEnd_eq with ⟨ph, i, tr, hn', hi⟩ | ⟨hn', -⟩ | ⟨hn', -⟩
  · have hleft := frameTicksLeft_next h.settling.params h0 hn' (x.durAcc + toWord (dur x.params ph i x.frame))
      (if isMark ph = true then onValue x else 0) tr
    rw [← hi] at hleft
    have hne : (intervalEnd x).seqPhase ≠ .idle := by rw [hi]; exact nextPosition_ne_idle hn'
    have hnow : (intervalEnd x).now = x.now := by rw [hi]
    have howner : (intervalEnd x).seqOwner = .bg := by rw [hi]; exact ho
    exact ⟨⟨hset, (bgEmitting_iff _).2 ⟨hne, howner⟩, hmoves, by rw [hnow, hleft]; exact h.now⟩, hleft,
      hset.writer.zeroTime_inside hne (ivlCnt_ne_zero hruns hne)⟩
  · exact absurd (hn.symm.trans hn') nofun
  · exact absurd (hn.symm.trans hn') nofun

/-- `STOP_REPEAT`, issued in `s` inside a background frame, is over in `t`, and so are the frame and the session; no
latency was drawn, and the results of the command before are still there (R208, D12). -/
def StoppedAfterFrame (s t : State) : Prop :=
  t.now = s.now + frameTicksLeft s + 1 ∧ t.busy = false ∧ t.fgStage = .idle ∧ t.rptState = .idle ∧ t.rptWait = 0 ∧
    t.cancelLat = 0 ∧ t.draws = s.draws ∧ t.seqPhase = .idle ∧ t.carrierValue = 0 ∧ t.rDuration = s.rDuration ∧
    t.frame = s.frame ∧ t.durAcc = toWord s.params.repeatDuration

/-- At the end of the frame a repeat frame has gone out whole (R103). -/
theorem StopAwaitsFrame.durAcc {s x : State} (h : StopAwaitsFrame s x)
    (hn : nextPosition x.seqPhase x.bitIdx = none) : x.durAcc = toWord s.params.repeatDuration := by
  obtain ⟨hne, ho⟩ := (bgEmitting_iff x).1 h.frame
  have hphase : x.seqPhase = .rptTrailMark := (trailMark_of_last hne hn).resolve_left fun hfull =>
    absurd ((h.settling.full (by rw [hfull]; rfl)).symm.trans ho) nofun
  have hparams : x.params = s.params := by
    obtain ⟨b, rfl⟩ := h.moves
    rfl
  rw [h.settling.started hne, hphase, hparams]
  rfl

/-- The frame ends, and at that instant, no latency being left, the session and `STOP_REPEAT` (R206, R208, D12). -/
theorem StopAwaitsFrame.frameOver {s x t : State} (h : StopAwaitsFrame s x) (hbg : bgEmitting s = true)
    (he : intervalEndEnabled x = true) (hn : nextPosition x.seqPhase x.bitIdx = none)
    (hst : finishInstant x = .next t) : frameTicksLeft x = 0 ∧ StoppedAfterFrame s t := by
  obtain ⟨-, ho⟩ := (bgEmitting_iff x).1 h.frame
  obtain ⟨hne, h0⟩ := (intervalEndEnabled_iff x).1 he
  have hleft := frameTicksLeft_last hne h0 hn
  have hnow : x.now = s.now + frameTicksLeft s := by rw [← h.now, hleft, Nat.add_zero]
  have hdur := h.durAcc hn
  rcases h.settling.intervalEnd_eq with ⟨ph, i, tr, hn', -⟩ | ⟨-, hfg, -⟩ | ⟨-, -, tr, hi⟩
  · exact absurd (hn.symm.trans hn') nofun
  · exact absurd (ho.symm.trans hfg) nofun
  have hz : zeroTime x = some (bgFrameDone x.durAcc { x with seqPhase := .idle, carrierValue := 0, trace := tr }) :=
    (if_pos he).trans (congrArg some hi)
  obtain ⟨b, rfl⟩ := h.moves
  have hsettle := settle_of_stopRepeat_stopping (s := bgFrameDone b.durAcc { withBackground b (stopIssued 0 s) with
    seqPhase := .idle, carrierValue := 0, trace := tr }) h.settling.params rfl rfl rfl rfl rfl
  have hfinish := finishInstant_of_settle ((settle_step hz).trans hsettle) (by decide)
  rw [tick_of_no_session rfl rfl] at hfinish
  cases hst.symm.trans hfinish
  exact ⟨hleft, congrArg (· + 1) hnow, rfl, rfl, rfl, rfl, rfl, if_pos hbg, rfl, rfl, rfl, rfl, hdur⟩

/-- A step of the wait for the frame: a tick less is left of it, or nothing was left and the frame ends. -/
theorem StopAwaitsFrame.step {s x t : State} (h : StopAwaitsFrame s x) (hbg : bgEmitting s = true)
    (hst : step x = .next t) :
    (StopAwaitsFrame s t ∧ frameTicksLeft t + 1 = frameTicksLeft x) ∨
      (frameTicksLeft x = 0 ∧ StoppedAfterFrame s t) := by
  obtain ⟨hne, -⟩ := (bgEmitting_iff x).1 h.frame
  have hin : x.inputs = [] := by
    obtain ⟨b, rfl⟩ := h.moves
    rfl
  rw [step_of_no_input hin] at hst
  rcases he : intervalEndEnabled x
  · have hquiet := h.settling.writer.zeroTime_inside hne (ivlCnt_ne_zero he hne)
    cases hst.symm.trans (finishInstant_quiet hquiet)
    exact .inl (h.tick hquiet)
  rcases hn : nextPosition x.seqPhase x.bitIdx with _ | ⟨ph, i⟩
  · exact .inr (h.frameOver hbg he hn hst)
  · obtain ⟨hnext, hleft, hquiet⟩ := h.nextInterval he hn
    cases hst.symm.trans (finishInstant_one (if_pos he) hquiet)
    obtain ⟨htick, hless⟩ := hnext.tick hquiet
    exact .inl ⟨htick, hless.trans hleft⟩

/-- Settles O60: the wait for the frame counts its ticks down, and the step at 0 ends it. -/
theorem stopInsideRepeatFrame : Obligations.StopInsideRepeatFrame := by
  intro s hs hr hbg hissue
  obtain ⟨delta, -, hzero, hsettling, hstep⟩ := step_of_stopRepeat hs hr hissue
  obtain rfl := hzero hbg
  have hawaits : StopAwaitsFrame s (stopIssued 0 s) := ⟨hsettling, hbg, backgroundMoves_refl _, rfl⟩
  obtain ⟨hbefore, t, ht, hover⟩ := run_countdown (P := StopAwaitsFrame s) (m := frameTicksLeft)
    (fun x hx => stepNeverStops x hx.settling.params) (fun x t hx hst => hx.step hbg hst) hawaits
  refine ⟨fun k h1 hk => ?_, t, (run_congr hstep (Nat.le_add_left _ _)).trans ht, hover⟩
  obtain ⟨w, hw, hwaits⟩ := hbefore k hk
  refine ⟨w, (run_congr hstep h1).trans hw, ?_, ?_, hwaits.frame⟩
  all_goals
    obtain ⟨b, rfl⟩ := hwaits.moves
    rfl

end Sys2Proof.Safety

namespace Sys2Proof.Machine

/-- Every frame begins with its lead mark, so none comes to a repeat lead mark from another interval. -/
theorem nextPosition_ne_rptLeadMark {ph ph' : Phase} {i i' : BitVec 5} (h : nextPosition ph i = some (ph', i')) :
    ph' ≠ .rptLeadMark := by
  cases ph <;> simp only [nextPosition, Option.some.injEq, Prod.mk.injEq, reduceCtorEq] at h
  case bitSpace => split at h <;> cases h <;> decide
  all_goals rw [← h.1]; decide

end Sys2Proof.Machine

namespace Sys2Proof.Safety

open Sys2Proof.Machine

/-! ## A session that is asked to stop (R204, R205, R252) -/

/-- Inside an instant of `s`, BG is inside a frame only if `s` is, and in a repeat lead mark only if that one is in
progress in `s`. -/
def NoFrameSince (s x : State) : Prop :=
  bgEmitting x = true →
    bgEmitting s = true ∧ (x.seqPhase = .rptLeadMark → s.seqPhase = .rptLeadMark ∧ x.ivlCnt = s.ivlCnt)

/-- Inside an instant of `s` the session is stopping and has started no frame, or it is gone. -/
def SessionEnds (s x : State) : Prop := (x.rptState = .stopping ∧ NoFrameSince s x) ∨ SessionGone x

/-- A session in a join is stopping, and an access starts no frame. -/
theorem sessionEnds_of_join {s u : State} (hs : Inv s) (ha : AccessKeeps s u) (hj : u.fgStage = .join) :
    SessionEnds s u := by
  have hsame : NoFrameSince s u := fun hbg => by
    rw [bgEmitting_iff, ha.seqPhase, ha.seqOwner, ← bgEmitting_iff] at hbg
    exact ⟨hbg, fun hp => ⟨ha.seqPhase ▸ hp, ha.ivlCnt⟩⟩
  have hgone : u.rptState = .idle → SessionEnds s u := fun hr =>
    .inr ⟨hr, fun he => absurd (hj.symm.trans he) nofun⟩
  obtain ⟨-, -, hjoinStopping, -⟩ := hs.guarantees
  rcases ha.agents with ⟨-, hstage, hrpt⟩ | ⟨-, -, -, hrpt⟩
  · exact .inl ⟨hrpt.trans (hjoinStopping (hstage ▸ hj)), hsame⟩
  · rcases hr : s.rptState <;> simp only [hr, reduceCtorEq, if_true, if_false] at hrpt
    · exact hgone hrpt
    · exact .inl ⟨hrpt, hsame⟩
    · exact .inl ⟨hrpt, hsame⟩

/-- The end of an interval starts no frame of BG's. -/
theorem NoFrameSince.intervalEnd {s x : State} (h : NoFrameSince s x) (hx : Settling x)
    (he : intervalEndEnabled x = true) : NoFrameSince s (intervalEnd x) := by
  intro hbg
  obtain ⟨hne', ho'⟩ := (bgEmitting_iff _).1 hbg
  obtain ⟨hne, -⟩ := (intervalEndEnabled_iff x).1 he
  rcases hx.intervalEnd_eq with ⟨ph, i, tr, hn, hi⟩ | ⟨-, -, tr, hi⟩ | ⟨-, -, tr, hi⟩
  · rw [hi] at ho' ⊢
    obtain ⟨hs, -⟩ := h ((bgEmitting_iff x).2 ⟨hne, ho'⟩)
    exact ⟨hs, fun hp => absurd hp (nextPosition_ne_rptLeadMark hn)⟩
  · exact absurd (by rw [hi]; simp) hne'
  · exact absurd (by rw [hi]; rfl) hne'

theorem SessionEnds.zeroTime {s x x' : State} (h : SessionEnds s x) (hx : Settling x)
    (hz : zeroTime x = some x') : SessionEnds s x' := by
  rcases h with ⟨hr, hno⟩ | hgone
  · rcases hx.zeroTime_of_stopping hr hz with ⟨hr', -⟩ | ⟨-, hr', hj⟩
    · rcases zeroTime_cases hz with ⟨he, rfl⟩ | ⟨-, -, rfl⟩ | ⟨-, he, -⟩ | ⟨-, he, -⟩
      · exact .inl ⟨hr', hno.intervalEnd hx he⟩
      · exact absurd hr' nofun
      · exact absurd (hr.symm.trans ((fgJoinDoneEnabled_iff x).1 he).2.1) nofun
      · exact absurd (hr.symm.trans ((bgFireEnabled_iff x).1 he).1) nofun
    · exact .inr ⟨hr', fun he => absurd (hj.symm.trans he) nofun⟩
  · exact .inr (hgone.zeroTime hx hz)

/-- The access of an instant in STOPPING, or of one that issues a joining command, has FG in the join. -/
theorem access_of_stop {s t : State} (hs : Inv s) (h : step s = .next t) (hr : inputNow s ≠ some .reset)
    (hstop : s.rptState = .stopping ∨ ∃ i, Issues s i ∧ joining i.opcode i.operand = true) :
    ∃ u w, AccessDoes s u ∧ u.fgStage = .join ∧ settle settleFuel u = some w ∧ t = tick w := by
  rcases hstop with hstop | ⟨i, hi, hj⟩
  · have hjoin := hs.settling.stopping hstop
    obtain ⟨u, w, ha, hset, ht⟩ := step_access h hr
    refine ⟨u, w, ha, ?_, hset, ht⟩
    obtain ⟨l, log, ill, ovr, rfl⟩ := ha.of_busy (hs.busy.2 (by simp [hjoin]))
    exact hjoin
  · obtain ⟨l, hl⟩ := takeInput_snd s
    rw [step_of_issues hi, hl, exec_of_joining hj] at h
    obtain ⟨w, hset, ht⟩ := finishInstant_next h
    exact ⟨_, w, .command l i _ hi (exec_of_joining hj _), by simp, hset, ht⟩

/-- An instant in STOPPING, or one that issues a joining command, settles with the session stopping or gone. -/
theorem step_of_stop {s t : State} (hs : Inv s) (h : step s = .next t) (hr : inputNow s ≠ some .reset)
    (hstop : s.rptState = .stopping ∨ ∃ i, Issues s i ∧ joining i.opcode i.operand = true) :
    ∃ w, t = tick w ∧ Settling w ∧ zeroTime w = none ∧ SessionEnds s w := by
  obtain ⟨u, w, ha, hj, hset, ht⟩ := access_of_stop hs h hr hstop
  obtain ⟨⟨hw, hends⟩, hq⟩ := settle_keeps (P := fun x => Settling x ∧ SessionEnds s x)
    (fun _ _ ⟨hx, he⟩ hz => ⟨hx.zeroTime hz, he.zeroTime hx hz⟩) hset
    ⟨settling_of_access hs ha, sessionEnds_of_join hs ha.keeps hj⟩
  exact ⟨w, ht, hw, hq, hends⟩

/-- Settles O48: a session that is gone leaves no frame of BG's, and one that is stopping has started none; a lead mark
still in progress has not run out. -/
theorem noRepeatFrameAfterRequest : Obligations.NoRepeatFrameAfterRequest := by
  intro s t hs h hstop hbg
  by_cases hr : inputNow s = some .reset
  · obtain ⟨l, rfl⟩ := step_of_reset h hr
    exact absurd hbg nofun
  obtain ⟨w, rfl, hw, hq, ⟨-, hno⟩ | ⟨hgone, -⟩⟩ := step_of_stop hs h hr hstop
  · obtain ⟨hruns, -⟩ := (zeroTime_none_iff w).1 hq
    obtain ⟨hemitting, hlead⟩ := hno hbg
    refine ⟨hemitting, fun hp => ?_⟩
    obtain ⟨hsame, hcnt⟩ := hlead hp
    exact ⟨hsame, hcnt ▸ ivlCnt_ne_zero hruns ((bgEmitting_iff w).1 hbg).1⟩
  · obtain ⟨hne, ho⟩ := (bgEmitting_iff w).1 hbg
    exact absurd hgone (hw.writer.background hne ho).1

/-! ## The coordinator from instant to instant (R200, R202, R205) -/

/-- With no command in execution and no session on, an instant without reset starts none. -/
theorem step_no_session {s t : State} (hs : Inv s) (hb : s.busy = false) (hidle : s.rptState = .idle)
    (hr : inputNow s ≠ some .reset) (h : step s = .next t) : t.rptState = .idle := by
  obtain ⟨u, w, ha, hset, rfl⟩ := step_access h hr
  have hgone : SessionGone u := by
    have hstage := hs.stage_idle_of_not_busy hb
    rcases ha.keeps.agents with ⟨-, hu, hrpt⟩ | ⟨-, -, hu, hrpt⟩
    · exact ⟨hrpt.trans hidle, fun he => absurd (hstage.symm.trans (hu.symm.trans he)) nofun⟩
    · exact ⟨by simpa [hidle] using hrpt, fun he => absurd (hu.symm.trans he) nofun⟩
  obtain ⟨⟨-, hw, -⟩, -⟩ := settle_keeps (P := fun x => Settling x ∧ SessionGone x)
    (fun _ _ ⟨hx, hg⟩ hz => ⟨hx.zeroTime hz, hg.zeroTime hx hz⟩) hset ⟨settling_of_access hs ha, hgone⟩
  exact hw

/-- A session starts only where the trail mark of a `SEND` with auto-repeat ends (R183, R202). -/
theorem session_starts {s t : State} (hs : Inv s) (hr : inputNow s ≠ some .reset) (h : step s = .next t)
    (hidle : s.rptState = .idle) (hrep : t.rptState = .repeating) :
    s.fgStage = .emit ∧ s.cmdOp = 0x05 ∧ s.autoRpt = true ∧ s.seqPhase = .trailMark ∧ s.ivlCnt = 0 := by
  have ht := stepKeepsInvariant s t hs h
  have hb : s.busy = true := Bool.of_not_eq_false fun hb =>
    absurd ((step_no_session hs hb hidle hr h).symm.trans hrep) nofun
  have htb := ht.not_busy_of_repeating hrep
  obtain ⟨hofStop, hofEmit⟩ := resultsWhenBusyFalls s t hs hb hr h htb
  have hop : s.cmdOp ≠ 0x07 := fun hop => absurd ((hofStop hop).2.symm.trans hrep) nofun
  obtain ⟨hemit, h0, -, hiff⟩ := hofEmit hop
  obtain ⟨hsend, hauto⟩ := hiff.1 hrep
  obtain ⟨hne, ho⟩ := hs.settling.writer.frame_of_emit hemit
  obtain ⟨-, hsendFrame, -⟩ := hs.frame hemit
  obtain ⟨hfull, -⟩ := hsendFrame hsend
  have hlast : nextPosition s.seqPhase s.bitIdx = none := by
    rcases hn : nextPosition s.seqPhase s.bitIdx with _ | ⟨ph, i⟩
    · rfl
    · obtain ⟨-, -, hnext⟩ := intervalsAreNotCut s t hs hne h
      obtain ⟨hph, -, -, ho'⟩ := hnext ph i hr h0 hn
      have hne' : t.seqPhase ≠ .idle := hph ▸ nextPosition_ne_idle hn
      obtain ⟨-, hidle'⟩ := ht.settling.writer.foreground hne' (ho'.trans ho)
      exact absurd (hrep.symm.trans hidle') nofun
  have htrail := (trailMark_of_last hne hlast).resolve_right fun hp => absurd (hp ▸ hfull) nofun
  exact ⟨hemit, hsend, hauto, htrail, h0⟩

/-- Without a session no step leaves one that is stopping (R205). -/
theorem step_not_stopping {s t : State} (hr : inputNow s ≠ some .reset) (h : step s = .next t)
    (hidle : s.rptState = .idle) : t.rptState ≠ .stopping := by
  refine step_keeps_of_access (P := fun x => x.rptState ≠ .stopping) (Q := fun x => x.rptState ≠ .stopping) h
    (fun hreset => absurd hreset hr) (fun u ha => ?_) (fun _ _ hx hz => zeroTime_not_stopping hz hx) (fun _ hx _ => hx)
  rcases ha.agents with ⟨-, -, hrpt⟩ | ⟨-, -, -, hrpt⟩ <;> simp [hrpt, hidle]

/-- A session goes on unless a joining command is issued at this instant (R205). -/
theorem step_repeating {s t : State} (hr : inputNow s ≠ some .reset) (h : step s = .next t)
    (hrep : s.rptState = .repeating) :
    t.rptState = .repeating ∨ ∃ i, Issues s i ∧ joining i.opcode i.operand = true := by
  obtain ⟨u, w, ha, hset, rfl⟩ := step_access h hr
  refine ha.rptState.imp_left fun hu => ?_
  obtain ⟨hw, -⟩ := settle_keeps (P := fun x => x.rptState = .repeating) (fun _ _ hx hz => zeroTime_repeating hz hx)
    hset (hu.trans hrep)
  exact hw

/-- An instant in STOPPING, or one that issues a joining command, leaves no session that goes on. -/
theorem not_repeating_of_stop {s t : State} (hs : Inv s) (h : step s = .next t) (hr : inputNow s ≠ some .reset)
    (hstop : s.rptState = .stopping ∨ ∃ i, Issues s i ∧ joining i.opcode i.operand = true) :
    t.rptState ≠ .repeating := by
  obtain ⟨w, rfl, -, -, ⟨hw, -⟩ | ⟨hw, -⟩⟩ := step_of_stop hs h hr hstop <;> simp [hw]

/-- Settles O47: each clause is what an instant does from one of the coordinator's states. -/
theorem coordinatorTransitions : Obligations.CoordinatorTransitions := fun _ _ hs hr h =>
  ⟨session_starts hs hr h, step_not_stopping hr h, fun hrep hnot => (step_repeating hr h hrep).resolve_left hnot,
    fun _ i hi hj => not_repeating_of_stop hs h hr (.inr ⟨i, hi, hj⟩),
    fun hstop => not_repeating_of_stop hs h hr (.inl hstop)⟩

end Sys2Proof.Safety

namespace Sys2Proof.Machine

/-! ## CONFIGURE at its issue (R230) -/

theorem exec_configure (d : Byte) (s : State) : exec (.configure d) s =
    .next { latch opConfigure (packD d) false s with duty := legalDuty d } := rfl

/-- R230 with the operand taken by its number, of which `DUTY` holds the low seven bits. -/
theorem legalDuty_eq (d : Byte) :
    legalDuty d = if 1 ≤ d.toNat ∧ d.toNat ≤ 100 then BitVec.ofNat 7 d.toNat else 33 := by
  rw [legalDuty, BitVec.ofNat_toNat]

/-- The corner cases and the worked example of R230, as wide as `CFG` reads them. -/
theorem legalDuty_corner_cases : ∀ c ∈ [((0 : Byte), (33 : Word)), (1, 1), (100, 100), (101, 33), (255, 33), (33, 33),
    (50, 0x32)], (legalDuty c.1).setWidth 32 = c.2 := by
  intro c hc
  fin_cases hc <;> decide

/-- Settles O21: the issue and the decoding are the model's own, and host register 6 is the duty stored. -/
theorem configureCompletes : Obligations.ConfigureCompletes := by
  refine ⟨fun d s => ?_, decode_configure, fun c hc s => ⟨_, exec_configure c.1 s, legalDuty_corner_cases c hc⟩⟩
  rw [exec_configure, legalDuty_eq]
  rfl

end Sys2Proof.Machine

namespace Sys2Proof.Machine

open Sys2Proof.Safety (inputNow)

/-! ## The flags of the two conditions (R33, R240)

`ILL` and `OVR` are raised alike, cleared alike, and reached by the host's accesses only. What is said of one is said of
the condition it is the flag of. -/

/-- The flag a condition raises. -/
def Condition.flag (c : Condition) (s : State) : Bool :=
  match c with
  | .illegal => s.ill
  | .overrun => s.ovr

/-- The bit of `STATUS` that clears the flag of a condition (R33). -/
def Condition.statusBit : Condition → Nat
  | .illegal => 4
  | .overrun => 5

section
variable (c : Condition) (s : State)

/-- Raising a condition sets its own flag and no other (R11, R244, R245). -/
theorem flag_raise (c' : Condition) : c.flag (raise c' s) = (c.flag s || decide (c = c')) := by
  cases c <;> cases c' <;> simp [Condition.flag, raise]

theorem flag_clearSticky (v : Word) : c.flag (clearSticky v s) = (c.flag s && !v.getLsbD c.statusBit) := by
  cases c <;> rfl

theorem flag_latch (op : Byte) (arg : Word) (auto : Bool) : c.flag (latch op arg auto s) = c.flag s := by
  cases c <;> rfl

theorem flag_beginJoin : c.flag (beginJoin s) = c.flag s := by
  cases c
  · exact beginJoin_ill s
  · exact beginJoin_ovr s

theorem flag_withHostSide (h : State) : c.flag (withHostSide h s) = c.flag h := by
  cases c <;> rfl

end

/-! ### An access -/

/-- No command raises or clears a flag (R240). -/
theorem flag_exec {c : Condition} {i : Instr} {s u : State} (h : exec i s = .next u) : c.flag u = c.flag s := by
  rcases exec_cases i s with ⟨op, arg, auto, he⟩ | ⟨op, arg, ticks, code, dec, duty, he⟩ <;> cases h.symm.trans he
  · rw [flag_beginJoin, flag_latch]
  · cases c <;> rfl

/-- The issue of a word clears no flag, legal or not (R92, R244). -/
theorem flag_issue {c : Condition} {op : Byte} {s u : State} (h : issue op s = .next u) (hc : c.flag s = true) :
    c.flag u = true := by
  rcases issue_cases h with ⟨i, -, he⟩ | ⟨e, -, rfl⟩
  · rw [flag_exec he, hc]
  · rw [issueIllegal, flag_raise, flag_latch, hc, Bool.true_or]

/-- A write clears a flag only by a 1 in its bit of `STATUS` (R33). -/
theorem flag_hostWrite {c : Condition} {idx : Nat} {v : Word} {s u : State} (h : hostWrite idx v s = .next u)
    (hc : c.flag s = true) : c.flag u = true ∨ (idx = 2 ∧ v.getLsbD c.statusBit = true) := by
  rcases hostWrite_cases h with ⟨-, -, rfl⟩ | ⟨-, -, rfl⟩ | ⟨-, -, hi⟩ | ⟨hidx, rfl⟩ | ⟨-, rfl⟩
  · exact .inl (by rw [flag_raise, hc, Bool.true_or])
  · exact .inl (by cases c <;> exact hc)
  · exact .inl (flag_issue hi hc)
  · rw [flag_clearSticky, hc]
    cases hbit : v.getLsbD c.statusBit
    · exact .inl rfl
    · exact .inr ⟨hidx, rfl⟩
  · exact .inl hc

/-! ### The rest of the instant -/

theorem finishInstant_keeps_hostSide {s t : State} (h : finishInstant s = .next t) : withHostSide s t = t :=
  Host.Outcome.next.inj ((finishInstant_withHostSide s h).symm.trans h)

theorem flag_finishInstant {c : Condition} {s t : State} (h : finishInstant s = .next t) : c.flag t = c.flag s := by
  rw [← finishInstant_keeps_hostSide h, flag_withHostSide]

/-- A condition raised before the transitions of an instant changes nothing of them (R240). -/
theorem finishInstant_raise (c : Condition) {s t : State} (h : finishInstant s = .next t) :
    finishInstant (raise c s) = .next (raise c t) := by
  have hside : raise c t = withHostSide (raise c s) t := by
    rw [← finishInstant_keeps_hostSide h]
    cases c <;> rfl
  have hraise : raise c s = withHostSide (raise c s) s := by cases c <;> rfl
  rw [hside, hraise]
  exact finishInstant_withHostSide (raise c s) h

/-- A flag falls only by a 1 written to its bit of `STATUS`, or by reset (R33, R46). -/
theorem flag_falls {c : Condition} {s t : State} (h : step s = .next t) (hs : c.flag s = true) (ht : c.flag t = false) :
    inputNow s = some .reset ∨ ∃ v : Word, inputNow s = some (.write 2 v) ∧ v.getLsbD c.statusBit = true := by
  obtain ⟨l, hl⟩ := takeInput_snd s
  have htaken : c.flag (takeInput s).2 = true := by rw [hl]; cases c <;> exact hs
  have hlost {u : State} (hf : finishInstant u = .next t) (hu : c.flag u = true) : False :=
    Bool.false_ne_true (ht.symm.trans ((flag_finishInstant hf).trans hu))
  rcases step_cases h with ⟨he, -⟩ | ⟨-, hf⟩ | ⟨idx, -, hf⟩ | ⟨idx, v, u, he, hw, hf⟩
  · exact .inl he
  · exact (hlost hf htaken).elim
  · exact (hlost hf (by cases c <;> exact htaken)).elim
  · rcases flag_hostWrite hw htaken with hu | ⟨rfl, hbit⟩
    · exact (hlost hf hu).elim
    · exact .inr ⟨v, he, hbit⟩

/-! ## The two conditions (R244, R245) -/

/-- A word no row of the table selects is latched and flagged (R92, R244). -/
theorem issue_of_not_wellFormed {op : Byte} {s : State} (h : wordWellFormed (cmdWord op s.cmdArgReg) = false) :
    issue op s = .next (issueIllegal op s.cmdArgReg s) := by
  obtain ⟨hlegal, -⟩ := decoderFollowsOpcodeTable
  cases hd : decode (cmdWord op s.cmdArgReg) with
  | ok i => exact absurd (h.symm.trans ((hlegal _).1 ⟨i, hd⟩)) Bool.false_ne_true
  | error e => simp only [issue, hd]

/-- A command-port write while `BUSY` is dropped and raises Overrun (R65, R245). -/
theorem hostWrite_of_busy {s : State} (hb : s.busy = true) {idx : Nat} (hidx : idx < 2) (v : Word) :
    hostWrite idx v s = .next (raise .overrun s) := by
  interval_cases idx
  · exact if_pos hb
  · exact if_pos hb

/-- Settles O26: a word no row selects does not decode, and `ILL` falls as every flag does. -/
theorem illegalWordRaisesIll : Obligations.IllegalWordRaisesIll :=
  ⟨fun _ _ hb hw => (if_neg (by simp [hb])).trans (issue_of_not_wellFormed hw),
    fun _ _ h hs ht => flag_falls (c := .illegal) h hs ht⟩

/-- Settles O27: the write only raises Overrun, which the rest of the instant does not read, and `OVR` falls as every
flag does. -/
theorem overrunOnlySetsOvr : Obligations.OverrunOnlySetsOvr := by
  refine ⟨fun s idx v hb hin hidx t hf => ?_, fun _ _ h hs ht => flag_falls (c := .overrun) h hs ht⟩
  obtain ⟨-, hstep⟩ := Safety.hostWrites
  obtain ⟨l, hl⟩ := takeInput_snd s
  have hbusy : (takeInput s).2.busy = true := by rw [hl]; exact hb
  rw [hstep s idx v hin, hostWrite_of_busy hbusy hidx, andThen_next]
  exact finishInstant_raise .overrun hf

end Sys2Proof.Machine

namespace Sys2Proof.Safety

open Sys2Proof.Machine

/-! ## A block at rest (R283) -/

/-- An instant with no access is the rest of the instant (R216). -/
theorem step_of_no_access {s : State} (h : inputNow s = none) : step s = finishInstant (takeInput s).2 :=
  congrArg (runInstant · (takeInput s).2) h

/-- Between frames, outside a session and with no command in execution, no zero-time transition is enabled. -/
theorem zeroTime_of_no_session {s : State} (hi : s.seqPhase = .idle) (hr : s.rptState = .idle)
    (hstage : s.fgStage = .idle) : zeroTime s = none := by
  rw [zeroTime_none_iff]
  exact ⟨by simp [intervalEndEnabled, hi], by simp [bgStopEnabled, hr], by simp [fgJoinDoneEnabled, hstage],
    by simp [bgFireEnabled, hr]⟩

/-- The rest of an instant between frames, outside a session and with no command in execution moves the time only. -/
theorem finishInstant_of_no_session {s : State} (hi : s.seqPhase = .idle) (hr : s.rptState = .idle)
    (hstage : s.fgStage = .idle) : finishInstant s = .next { s with now := s.now + 1 } := by
  rw [finishInstant_quiet (zeroTime_of_no_session hi hr hstage), tick_of_no_session hi hr]

/-- Settles O45: the invariant rules out a command in execution where `BUSY` is 0, and a read adds its record to an
instant that nothing else happens in. -/
theorem quiescentBlockRests : Obligations.QuiescentBlockRests := by
  intro s hs ⟨hb, hr, hi⟩
  have hfinish : finishInstant (takeInput s).2 = .next { (takeInput s).2 with now := s.now + 1 } := by
    obtain ⟨l, hl⟩ := takeInput_snd s
    rw [hl]
    exact finishInstant_of_no_session hi hr (hs.stage_idle_of_not_busy hb)
  obtain ⟨-, hread⟩ := hostReads
  refine ⟨fun hnone => (step_of_no_access hnone).trans hfinish, fun idx hidx => ?_⟩
  obtain ⟨-, hlogged⟩ := hread s idx hidx
  exact hlogged _ hfinish

/-! ## The reset input (R280, R282) -/

/-- An instant with the reset input is the reset of the block (R280). -/
theorem step_of_reset_now {s : State} (h : inputNow s = some .reset) : step s = .next (resetBlock (takeInput s).2) :=
  congrArg (runInstant · (takeInput s).2) h

/-- Settles O36: the input at the head of the schedule is taken, and the reset leaves what is outside the block. -/
theorem resetInputRestarts : Obligations.ResetInputRestarts := by
  intro s rest hin
  have htake : takeInput s = (some .reset, { s with inputs := rest }) := by simp only [takeInput, hin]
  rw [step_of_reset_now (congrArg Prod.fst htake), htake]
  rfl

end Sys2Proof.Safety
